-- ==== Sys2Proof/Word.lean ====
section
/-! DEFINITION. The plain word types of the AVR core (spec/00_scope.md R6, spec/10_state.md R20). -/
namespace Sys2Proof

/-- A register, an I/O location, a byte of the data space: 8 bits (R20, R39, R40). -/
abbrev Byte := BitVec 8

/-- A Program memory word and a register pair: 16 bits (R21, R38). -/
abbrev Word16 := BitVec 16

/-- The number of a general register, R0 to R31 (R20). -/
abbrev Reg := Fin 32

/-- The number of a bit in a register, an I/O location or SREG (R12, `b` and `s`). -/
abbrev BitNum := Fin 8

end Sys2Proof
end

