-- ==== Sys2Proof/Config.lean ====
section
/-! DEFINITION. The implementation parameters of spec/00_scope.md R4 as plain data, the condition under which a choice
of them is admissible, and the free values: opaque constants that stand for what the spec leaves unstated. -/
namespace Sys2Proof

/-- `PTR_CLASS` (R4): how wide the index pointers are (spec/20_memory.md R73). -/
inductive PtrClass where
  | small | normal | extended
  deriving DecidableEq, Repr, Inhabited

/-- `SP_BITS` (R4, spec/10_state.md R31): the stack pointer has 8 or 16 bits. -/
inductive SpWidth where
  | eight | sixteen
  deriving DecidableEq, Repr, Inhabited

/-- `CORE_TIMING` (R4): the column of the clock table (spec/70_reset_and_hazards.md R460). -/
inductive CoreTiming where
  | classic | xmega | tiny10
  deriving DecidableEq, Repr, Inhabited

/-- The opcode-table rows a device may lack (R5): the rows with note 1 or 2, DES, and the 16-bit LDS and STS.
Every other row is always available. -/
inductive OptionalRow where
  | adiw | sbiw | mul | muls | mulsu | fmul | fmuls | fmulsu | des
  | ijmp | eijmp | jmp | icall | eicall | call | movw
  | lds | lds16 | ldX | ldXInc | ldXDec | ldY | ldYInc | ldYDec | lddY | ldZ | ldZInc | ldZDec | lddZ
  | sts | sts16 | stX | stXInc | stXDec | stY | stYInc | stYDec | stdY | stZ | stZInc | stZDec | stdZ
  | push | pop | lpmR0 | lpmZ | lpmZInc | elpmR0 | elpmZ | elpmZInc | spm | spmZInc | brk
  deriving DecidableEq, Repr, Inhabited

/-- What one SPM does to the device (spec/44_program_memory.md R328): one of the five operations of its table, or
nothing when no operation is selected. -/
inductive SpmOp where
  | pageErase | wordWrite | bufferFill | pageWrite | lockBits | noOperation
  deriving DecidableEq, Repr, Inhabited

/-- One entry `(n, addr)` of `VECTORS` (spec/60_exceptions.md R404). `autoClear` says what `InterruptAck(n)` does:
whether the device drops request `n` once it has been served (log 14). -/
structure VectorEntry where
  num : Nat
  addr : Nat
  autoClear : Bool
  deriving DecidableEq, Repr, Inhabited

/-- The parameters of R4, under the spec's names. `PC_BYTES` is derived. `ioStorage` and `extStorage` list the
address ranges whose device locations are plain storage in the sense of spec/20_memory.md R65; every other device
location has no device behind it. `spmPageWords` is the page size of `SpmOperation` (R328, log 10). -/
structure Config where
  pcBits : Nat
  flashEnd : Nat
  ramEnd : Nat
  ptrClass : PtrClass
  hasRampX : Bool
  hasRampY : Bool
  hasRampZ : Bool
  hasRampD : Bool
  hasEind : Bool
  ioBase : Nat
  extIoFirst : Nat
  extIoLast : Nat
  sramStart : Nat
  sregIo : Nat
  splIo : Nat
  sphIo : Nat
  rampXIo : Nat
  rampYIo : Nat
  rampZIo : Nat
  rampDIo : Nat
  eindIo : Nat
  spWidth : SpWidth
  regfileInData : Bool
  reducedCore : Bool
  flashDataBase : Option Nat
  available : List OptionalRow
  ocdEnabled : Bool
  vectors : List VectorEntry
  resetAddr : Nat
  sregWriteHoldoff : Bool
  coreTiming : CoreTiming
  ioStorage : List (Nat × Nat)
  extStorage : List (Nat × Nat)
  spmPageWords : Nat
  deriving DecidableEq, Repr, Inhabited

/-- The I/O addresses of the core registers the device has (spec/10_state.md R31, R33). -/
def Config.coreIoAddresses (c : Config) : List Nat :=
  [c.sregIo, c.splIo]
    ++ (if c.spWidth = .sixteen then [c.sphIo] else [])
    ++ (if c.hasRampX then [c.rampXIo] else [])
    ++ (if c.hasRampY then [c.rampYIo] else [])
    ++ (if c.hasRampZ then [c.rampZIo] else [])
    ++ (if c.hasRampD then [c.rampDIo] else [])
    ++ (if c.hasEind then [c.eindIo] else [])

/-- The bound on `RAMEND` that `PTR_CLASS` sets (R4, admissible choices). -/
def PtrClass.dataBound : PtrClass → Nat
  | .small => 2 ^ 8
  | .normal => 2 ^ 16
  | .extended => 2 ^ 24

/-- The admissible choices of R4. The last conjunct is the model's own: an SPM page holds at least one word. -/
def Config.wf (c : Config) : Bool :=
  decide (1 ≤ c.pcBits) && decide (c.pcBits ≤ 22) && decide (c.flashEnd < 2 ^ c.pcBits)
    && (!c.hasEind || decide (16 < c.pcBits))
    && (!(c.hasRampX || c.hasRampY || c.hasRampZ || c.hasRampD) || c.ptrClass == .extended)
    && decide (c.ramEnd < c.ptrClass.dataBound)
    && decide c.coreIoAddresses.Nodup && c.coreIoAddresses.all (fun a => decide (a ≤ 63))
    && c.vectors.all (fun v => decide (1 ≤ v.num) && decide (v.addr ≤ c.flashEnd))
    && decide (c.resetAddr ≤ c.flashEnd)
    && decide (1 ≤ c.spmPageWords)

/-- `PC_BYTES`: 2 when `PC_BITS` ≤ 16, else 3 (R4). -/
def Config.pcBytes (c : Config) : Nat := if c.pcBits ≤ 16 then 2 else 3

/-- The number of values SP can hold, 2^`SP_BITS` (spec/10_state.md R31). -/
def Config.spModulus (c : Config) : Nat :=
  match c.spWidth with
  | .eight => 2 ^ 8
  | .sixteen => 2 ^ 16

/-- Free value: the `t`-th byte the spec does not state, such as a read of a device location with no device behind it
(spec/93_implementation_defined.md U17). Nothing constrains it (log 9). -/
opaque Config.freeByte : Nat → Byte

/-- Free value: the `t`-th Program memory word the spec does not state (R328, a page written that was not erased). -/
opaque Config.freeWord : Nat → Nat → Word16

/-- Free value: the Program memory word address the `t`-th SPM acts on when its own is above `FLASHEND` (R328). -/
opaque Config.freeAddress : Nat → Nat

/-- Free value: which operation the `t`-th SPM performs. The device state that selects it is in no source (R328, U23). -/
opaque Config.spmSelect : Nat → SpmOp

/-- Free value: how the registers hold the DES state after round `k` (k < 15) in direction `h`, the standard's data
block and key being re-coded one to one. The intermediate contents are not in the source (R188, D23; log 12). -/
opaque Config.desRecode : Fin 15 → Bool → Equiv.Perm (BitVec 64 × BitVec 64)

/-- Free value: what R15:R8 hold after the sixteenth DES round (R188: not in the source). -/
opaque Config.desFinalKey : Bool → BitVec 64 × BitVec 64 → BitVec 64

end Sys2Proof
end

