-- ==== Sys2Proof/Machine/Device.lean ====
section
/-! DEFINITION. The device the reset state is a state of, and the values at reset that no source states. -/
namespace Sys2Proof.Machine

/-- The reset device of log 2, the one `State.reset` and `decodeTableWord` use: the largest admissible device, with
every instruction. The I/O addresses, the I/O base and the SRAM start are the AVR family's (PRESUMED). -/
def resetDevice : Config where
  pcBits := 22
  flashEnd := 0x3FFFFF
  ramEnd := 0xFFFFFF
  ptrClass := .extended
  hasRampX := true
  hasRampY := true
  hasRampZ := true
  hasRampD := true
  hasEind := true
  ioBase := 0x20
  extIoFirst := 0x60
  extIoLast := 0xFF
  sramStart := 0x100
  sregIo := 0x3F
  splIo := 0x3D
  sphIo := 0x3E
  rampXIo := 0x39
  rampYIo := 0x3A
  rampZIo := 0x3B
  rampDIo := 0x38
  eindIo := 0x3C
  spWidth := .sixteen
  regfileInData := true
  reducedCore := false
  flashDataBase := none
  available := [.adiw, .sbiw, .mul, .muls, .mulsu, .fmul, .fmuls, .fmulsu, .des,
    .ijmp, .eijmp, .jmp, .icall, .eicall, .call, .movw,
    .lds, .lds16, .ldX, .ldXInc, .ldXDec, .ldY, .ldYInc, .ldYDec, .lddY, .ldZ, .ldZInc, .ldZDec, .lddZ,
    .sts, .sts16, .stX, .stXInc, .stXDec, .stY, .stYInc, .stYDec, .stdY, .stZ, .stZInc, .stZDec, .stdZ,
    .push, .pop, .lpmR0, .lpmZ, .lpmZInc, .elpmR0, .elpmZ, .elpmZInc, .spm, .spmZInc, .brk]
  ocdEnabled := false
  vectors := []
  resetAddr := 0
  sregWriteHoldoff := false
  coreTiming := .classic
  ioStorage := []
  extStorage := []
  spmPageWords := 128

/-- What every general register holds after reset. The spec states no value (spec/10_state.md R47): DESIGN CHOICE,
unsafe (log 3). -/
def resetRegister : Byte := 0#8

/-- What SP holds after reset. The spec states no value (R47): PRESUMED, the initial value 0x0000 of the AVR family whose
I/O addresses the reset device takes (log 2, log 4), unsafe. -/
def resetSp : BitVec 16 := 0#16

/-- What the Boot Loader Lock bits hold after reset. The spec states no value: DESIGN CHOICE, unsafe (log 11). -/
def resetBootLock : BitVec 16 := 0#16

/-- `SleepEnabled()` before the device says otherwise: DESIGN CHOICE, unsafe (log 13). -/
def resetSleepEnabled : Bool := false

end Sys2Proof.Machine
end

