-- ==== Sys2Proof/Syntax.lean ====
section
/-! DEFINITION. The instructions: one constructor per row of spec/opcode_table.json, in the table's order
(spec/00_scope.md R2). Operand ranges that a type does not carry are checked in WellFormed.lean. A relative offset `k`
is kept as its two's complement field, `a` is an I/O address, `b` is a bit number (spec/30_encoding.md R124). -/
namespace Sys2Proof

/-- One instruction: its mnemonic, the manual's operands, and the rule that gives its meaning. -/
inductive Instr where
  /-- ADD Rd,Rr (R143). -/
  | add (d : Reg) (r : Reg)
  /-- ADC Rd,Rr (R144). -/
  | adc (d : Reg) (r : Reg)
  /-- ADIW Rd+1:Rd,K (R145). -/
  | adiw (d : Reg) (k : Fin 64)
  /-- SUB Rd,Rr (R146). -/
  | sub (d : Reg) (r : Reg)
  /-- SUBI Rd,K (R147). -/
  | subi (d : Reg) (k : BitVec 8)
  /-- SBC Rd,Rr (R148). -/
  | sbc (d : Reg) (r : Reg)
  /-- SBCI Rd,K (R149). -/
  | sbci (d : Reg) (k : BitVec 8)
  /-- SBIW Rd+1:Rd,K (R150). -/
  | sbiw (d : Reg) (k : Fin 64)
  /-- AND Rd,Rr (R151). -/
  | and (d : Reg) (r : Reg)
  /-- ANDI Rd,K (R152). -/
  | andi (d : Reg) (k : BitVec 8)
  /-- OR Rd,Rr (R153). -/
  | or (d : Reg) (r : Reg)
  /-- ORI Rd,K (R154). -/
  | ori (d : Reg) (k : BitVec 8)
  /-- EOR Rd,Rr (R155). -/
  | eor (d : Reg) (r : Reg)
  /-- COM Rd (R156). -/
  | com (d : Reg)
  /-- NEG Rd (R157). -/
  | neg (d : Reg)
  /-- SBR Rd,K, another name of ORI (R158). -/
  | sbr (d : Reg) (k : BitVec 8)
  /-- CBR Rd,K, another name of ANDI Rd,0xFF-K (R159). -/
  | cbr (d : Reg) (k : BitVec 8)
  /-- INC Rd (R160). -/
  | inc (d : Reg)
  /-- DEC Rd (R161). -/
  | dec (d : Reg)
  /-- TST Rd, another name of AND Rd,Rd (R162). -/
  | tst (d : Reg)
  /-- CLR Rd, another name of EOR Rd,Rd (R163). -/
  | clr (d : Reg)
  /-- SER Rd, another name of LDI Rd,0xFF (R164). -/
  | ser (d : Reg)
  /-- MUL Rd,Rr (R181). -/
  | mul (d : Reg) (r : Reg)
  /-- MULS Rd,Rr (R182). -/
  | muls (d : Reg) (r : Reg)
  /-- MULSU Rd,Rr (R183). -/
  | mulsu (d : Reg) (r : Reg)
  /-- FMUL Rd,Rr (R184). -/
  | fmul (d : Reg) (r : Reg)
  /-- FMULS Rd,Rr (R185). -/
  | fmuls (d : Reg) (r : Reg)
  /-- FMULSU Rd,Rr (R186). -/
  | fmulsu (d : Reg) (r : Reg)
  /-- DES K (R187). -/
  | des (k : Fin 16)
  /-- RJMP k (R202). -/
  | rjmp (k : BitVec 12)
  /-- IJMP (R203). -/
  | ijmp
  /-- EIJMP (R204). -/
  | eijmp
  /-- JMP k (R205). -/
  | jmp (k : BitVec 22)
  /-- RCALL k (R206). -/
  | rcall (k : BitVec 12)
  /-- ICALL (R207). -/
  | icall
  /-- EICALL (R208). -/
  | eicall
  /-- CALL k (R209). -/
  | call (k : BitVec 22)
  /-- RET (R210). -/
  | ret
  /-- RETI (R211). -/
  | reti
  /-- CPSE Rd,Rr (R212). -/
  | cpse (d : Reg) (r : Reg)
  /-- CP Rd,Rr (R213). -/
  | cp (d : Reg) (r : Reg)
  /-- CPC Rd,Rr (R214). -/
  | cpc (d : Reg) (r : Reg)
  /-- CPI Rd,K (R215). -/
  | cpi (d : Reg) (k : BitVec 8)
  /-- SBRC Rr,b (R216). -/
  | sbrc (r : Reg) (b : BitNum)
  /-- SBRS Rr,b (R217). -/
  | sbrs (r : Reg) (b : BitNum)
  /-- SBIC A,b (R218). -/
  | sbic (a : Fin 32) (b : BitNum)
  /-- SBIS A,b (R219). -/
  | sbis (a : Fin 32) (b : BitNum)
  /-- BRBS s,k (R220). -/
  | brbs (b : BitNum) (k : BitVec 7)
  /-- BRBC s,k (R221). -/
  | brbc (b : BitNum) (k : BitVec 7)
  /-- BREQ k, another name of BRBS 1,k (R222). -/
  | breq (k : BitVec 7)
  /-- BRNE k, another name of BRBC 1,k (R223). -/
  | brne (k : BitVec 7)
  /-- BRCS k, another name of BRBS 0,k (R224). -/
  | brcs (k : BitVec 7)
  /-- BRCC k, another name of BRBC 0,k (R225). -/
  | brcc (k : BitVec 7)
  /-- BRSH k, another name of BRBC 0,k (R226). -/
  | brsh (k : BitVec 7)
  /-- BRLO k, another name of BRBS 0,k (R227). -/
  | brlo (k : BitVec 7)
  /-- BRMI k, another name of BRBS 2,k (R228). -/
  | brmi (k : BitVec 7)
  /-- BRPL k, another name of BRBC 2,k (R229). -/
  | brpl (k : BitVec 7)
  /-- BRGE k, another name of BRBC 4,k (R230). -/
  | brge (k : BitVec 7)
  /-- BRLT k, another name of BRBS 4,k (R231). -/
  | brlt (k : BitVec 7)
  /-- BRHS k, another name of BRBS 5,k (R232). -/
  | brhs (k : BitVec 7)
  /-- BRHC k, another name of BRBC 5,k (R233). -/
  | brhc (k : BitVec 7)
  /-- BRTS k, another name of BRBS 6,k (R234). -/
  | brts (k : BitVec 7)
  /-- BRTC k, another name of BRBC 6,k (R235). -/
  | brtc (k : BitVec 7)
  /-- BRVS k, another name of BRBS 3,k (R236). -/
  | brvs (k : BitVec 7)
  /-- BRVC k, another name of BRBC 3,k (R237). -/
  | brvc (k : BitVec 7)
  /-- BRIE k, another name of BRBS 7,k (R238). -/
  | brie (k : BitVec 7)
  /-- BRID k, another name of BRBC 7,k (R239). -/
  | brid (k : BitVec 7)
  /-- MOV Rd,Rr (R260). -/
  | mov (d : Reg) (r : Reg)
  /-- MOVW Rd+1:Rd,Rr+1:Rr (R261). -/
  | movw (d : Reg) (r : Reg)
  /-- LDI Rd,K (R262). -/
  | ldi (d : Reg) (k : BitVec 8)
  /-- LDS Rd,k, two words (R263). -/
  | lds (d : Reg) (k : BitVec 16)
  /-- LDS Rd,k, one word, reduced core (R264). -/
  | lds16 (d : Reg) (k : BitVec 7)
  /-- LD Rd,X (R265). -/
  | ldX (d : Reg)
  /-- LD Rd,X+ (R266). -/
  | ldXInc (d : Reg)
  /-- LD Rd,-X (R267). -/
  | ldXDec (d : Reg)
  /-- LD Rd,Y, another name of LDD Rd,Y+0 (R268). -/
  | ldY (d : Reg)
  /-- LD Rd,Y+ (R269). -/
  | ldYInc (d : Reg)
  /-- LD Rd,-Y (R270). -/
  | ldYDec (d : Reg)
  /-- LDD Rd,Y+q (R271). -/
  | lddY (d : Reg) (q : Fin 64)
  /-- LD Rd,Z, another name of LDD Rd,Z+0 (R272). -/
  | ldZ (d : Reg)
  /-- LD Rd,Z+ (R273). -/
  | ldZInc (d : Reg)
  /-- LD Rd,-Z (R274). -/
  | ldZDec (d : Reg)
  /-- LDD Rd,Z+q (R275). -/
  | lddZ (d : Reg) (q : Fin 64)
  /-- STS k,Rr, two words (R276). -/
  | sts (k : BitVec 16) (r : Reg)
  /-- STS k,Rr, one word, reduced core (R277). -/
  | sts16 (k : BitVec 7) (r : Reg)
  /-- ST X,Rr (R278). -/
  | stX (r : Reg)
  /-- ST X+,Rr (R279). -/
  | stXInc (r : Reg)
  /-- ST -X,Rr (R280). -/
  | stXDec (r : Reg)
  /-- ST Y,Rr, another name of STD Y+0,Rr (R281). -/
  | stY (r : Reg)
  /-- ST Y+,Rr (R282). -/
  | stYInc (r : Reg)
  /-- ST -Y,Rr (R283). -/
  | stYDec (r : Reg)
  /-- STD Y+q,Rr (R284). -/
  | stdY (q : Fin 64) (r : Reg)
  /-- ST Z,Rr, another name of STD Z+0,Rr (R285). -/
  | stZ (r : Reg)
  /-- ST Z+,Rr (R286). -/
  | stZInc (r : Reg)
  /-- ST -Z,Rr (R287). -/
  | stZDec (r : Reg)
  /-- STD Z+q,Rr (R288). -/
  | stdZ (q : Fin 64) (r : Reg)
  /-- IN Rd,A (R289). -/
  | ioIn (d : Reg) (a : Fin 64)
  /-- OUT A,Rr (R290). -/
  | ioOut (a : Fin 64) (r : Reg)
  /-- PUSH Rr (R291). -/
  | push (r : Reg)
  /-- POP Rd (R292). -/
  | pop (d : Reg)
  /-- LPM (R320). -/
  | lpmR0
  /-- LPM Rd,Z (R321). -/
  | lpmZ (d : Reg)
  /-- LPM Rd,Z+ (R322). -/
  | lpmZInc (d : Reg)
  /-- ELPM (R323). -/
  | elpmR0
  /-- ELPM Rd,Z (R324). -/
  | elpmZ (d : Reg)
  /-- ELPM Rd,Z+ (R325). -/
  | elpmZInc (d : Reg)
  /-- SPM (R326). -/
  | spm
  /-- SPM Z+ (R327). -/
  | spmZInc
  /-- LSL Rd, another name of ADD Rd,Rd (R341). -/
  | lsl (d : Reg)
  /-- LSR Rd (R342). -/
  | lsr (d : Reg)
  /-- ROL Rd, another name of ADC Rd,Rd (R343). -/
  | rol (d : Reg)
  /-- ROR Rd (R344). -/
  | ror (d : Reg)
  /-- ASR Rd (R345). -/
  | asr (d : Reg)
  /-- SWAP Rd (R346). -/
  | swap (d : Reg)
  /-- BSET s (R347). -/
  | bset (b : BitNum)
  /-- BCLR s (R348). -/
  | bclr (b : BitNum)
  /-- SBI A,b (R349). -/
  | sbi (a : Fin 32) (b : BitNum)
  /-- CBI A,b (R350). -/
  | cbi (a : Fin 32) (b : BitNum)
  /-- BST Rd,b (R351). -/
  | bst (d : Reg) (b : BitNum)
  /-- BLD Rd,b (R352). -/
  | bld (d : Reg) (b : BitNum)
  /-- SEC, another name of BSET 0 (R353). -/
  | sec
  /-- CLC, another name of BCLR 0 (R354). -/
  | clc
  /-- SEN, another name of BSET 2 (R355). -/
  | sen
  /-- CLN, another name of BCLR 2 (R356). -/
  | cln
  /-- SEZ, another name of BSET 1 (R357). -/
  | sez
  /-- CLZ, another name of BCLR 1 (R358). -/
  | clz
  /-- SEI, another name of BSET 7 (R359). -/
  | sei
  /-- CLI, another name of BCLR 7 (R360). -/
  | cli
  /-- SES, another name of BSET 4 (R361). -/
  | ses
  /-- CLS, another name of BCLR 4 (R362). -/
  | cls
  /-- SEV, another name of BSET 3 (R363). -/
  | sev
  /-- CLV, another name of BCLR 3 (R364). -/
  | clv
  /-- SET, another name of BSET 6 (R365). -/
  | setT
  /-- CLT, another name of BCLR 6 (R366). -/
  | clt
  /-- SEH, another name of BSET 5 (R367). -/
  | seh
  /-- CLH, another name of BCLR 5 (R368). -/
  | clh
  /-- BREAK (R390). -/
  | brk
  /-- NOP (R391). -/
  | nop
  /-- SLEEP (R392). -/
  | sleep
  /-- WDR (R393). -/
  | wdr
  deriving DecidableEq, Repr

end Sys2Proof
end

