-- ==== Sys2Proof/WellFormed.lean ====
section
/-! DEFINITION. The operand ranges of spec/10_state.md R23 that the types of Syntax.lean do not carry. -/
namespace Sys2Proof

/-- R16 to R31, the upper registers ("16 ≤ d ≤ 31"). -/
def upperReg (d : Reg) : Bool := decide (16 ≤ d.val)

/-- R16 to R23, the operands of MULSU and the fractional multiplies (R119). -/
def mulReg (d : Reg) : Bool := decide (16 ≤ d.val) && decide (d.val ≤ 23)

/-- An even register, the low half of a MOVW pair (R117). -/
def evenReg (d : Reg) : Bool := decide (d.val % 2 = 0)

/-- R24, R26, R28 or R30, the low half of an ADIW or SBIW pair (R109). -/
def wordReg (d : Reg) : Bool := decide (24 ≤ d.val) && decide (d.val % 2 = 0)

/-- The instruction's operands are ones its encoding can hold (R23, R102 to R121). -/
def Instr.wf : Instr → Bool
  | .add _ _ => true
  | .adc _ _ => true
  | .adiw d _ => wordReg d
  | .sub _ _ => true
  | .subi d _ => upperReg d
  | .sbc _ _ => true
  | .sbci d _ => upperReg d
  | .sbiw d _ => wordReg d
  | .and _ _ => true
  | .andi d _ => upperReg d
  | .or _ _ => true
  | .ori d _ => upperReg d
  | .eor _ _ => true
  | .com _ => true
  | .neg _ => true
  | .sbr d _ => upperReg d
  | .cbr d _ => upperReg d
  | .inc _ => true
  | .dec _ => true
  | .tst _ => true
  | .clr _ => true
  | .ser d => upperReg d
  | .mul _ _ => true
  | .muls d r => upperReg d && upperReg r
  | .mulsu d r => mulReg d && mulReg r
  | .fmul d r => mulReg d && mulReg r
  | .fmuls d r => mulReg d && mulReg r
  | .fmulsu d r => mulReg d && mulReg r
  | .des _ => true
  | .rjmp _ => true
  | .ijmp => true
  | .eijmp => true
  | .jmp _ => true
  | .rcall _ => true
  | .icall => true
  | .eicall => true
  | .call _ => true
  | .ret => true
  | .reti => true
  | .cpse _ _ => true
  | .cp _ _ => true
  | .cpc _ _ => true
  | .cpi d _ => upperReg d
  | .sbrc _ _ => true
  | .sbrs _ _ => true
  | .sbic _ _ => true
  | .sbis _ _ => true
  | .brbs _ _ => true
  | .brbc _ _ => true
  | .breq _ => true
  | .brne _ => true
  | .brcs _ => true
  | .brcc _ => true
  | .brsh _ => true
  | .brlo _ => true
  | .brmi _ => true
  | .brpl _ => true
  | .brge _ => true
  | .brlt _ => true
  | .brhs _ => true
  | .brhc _ => true
  | .brts _ => true
  | .brtc _ => true
  | .brvs _ => true
  | .brvc _ => true
  | .brie _ => true
  | .brid _ => true
  | .mov _ _ => true
  | .movw d r => evenReg d && evenReg r
  | .ldi d _ => upperReg d
  | .lds _ _ => true
  | .lds16 d _ => upperReg d
  | .ldX _ => true
  | .ldXInc _ => true
  | .ldXDec _ => true
  | .ldY _ => true
  | .ldYInc _ => true
  | .ldYDec _ => true
  | .lddY _ _ => true
  | .ldZ _ => true
  | .ldZInc _ => true
  | .ldZDec _ => true
  | .lddZ _ _ => true
  | .sts _ _ => true
  | .sts16 _ r => upperReg r
  | .stX _ => true
  | .stXInc _ => true
  | .stXDec _ => true
  | .stY _ => true
  | .stYInc _ => true
  | .stYDec _ => true
  | .stdY _ _ => true
  | .stZ _ => true
  | .stZInc _ => true
  | .stZDec _ => true
  | .stdZ _ _ => true
  | .ioIn _ _ => true
  | .ioOut _ _ => true
  | .push _ => true
  | .pop _ => true
  | .lpmR0 => true
  | .lpmZ _ => true
  | .lpmZInc _ => true
  | .elpmR0 => true
  | .elpmZ _ => true
  | .elpmZInc _ => true
  | .spm => true
  | .spmZInc => true
  | .lsl _ => true
  | .lsr _ => true
  | .rol _ => true
  | .ror _ => true
  | .asr _ => true
  | .swap _ => true
  | .bset _ => true
  | .bclr _ => true
  | .sbi _ _ => true
  | .cbi _ _ => true
  | .bst _ _ => true
  | .bld _ _ => true
  | .sec => true
  | .clc => true
  | .sen => true
  | .cln => true
  | .sez => true
  | .clz => true
  | .sei => true
  | .cli => true
  | .ses => true
  | .cls => true
  | .sev => true
  | .clv => true
  | .setT => true
  | .clt => true
  | .seh => true
  | .clh => true
  | .brk => true
  | .nop => true
  | .sleep => true
  | .wdr => true

end Sys2Proof
end

