-- ==== Sys2Proof/Decode.lean ====
section
/-! DEFINITION. The decoder of spec/30_encoding.md R122, written from the formats R102 to R121, and after it the encoder,
written from the same formats. Bits are taken from and put into words as numbers; bit 0 is the least significant (R6). -/
namespace Sys2Proof

/-- Bits `lo + len - 1` down to `lo` of `w`, as an unsigned number (R6, `w[hi:lo]`). -/
def bitsAt (w lo len : Nat) : Nat := w / 2 ^ lo % 2 ^ len

/-- Bits 8:4, the five-bit register field (R102, R104 to R107, R110, R114). -/
def fieldReg (w : Nat) : Reg := Fin.ofNat 32 (bitsAt w 4 5)

/-- r[4] in bit 9 and r[3:0] in bits 3:0 (R102). -/
def fieldRegR (w : Nat) : Reg := Fin.ofNat 32 (bitsAt w 9 1 * 16 + bitsAt w 0 4)

/-- R16 + bits 7:4 (R103, R108, R118). -/
def fieldUpper (w : Nat) : Reg := Fin.ofNat 32 (16 + bitsAt w 4 4)

/-- R16 + bits 3:0 (R118). -/
def fieldUpperR (w : Nat) : Reg := Fin.ofNat 32 (16 + bitsAt w 0 4)

/-- K[7:4] in bits 11:8 and K[3:0] in bits 3:0 (R103). -/
def fieldImm (w : Nat) : BitVec 8 := BitVec.ofNat 8 (bitsAt w 8 4 * 16 + bitsAt w 0 4)

/-- q[5] in bit 13, q[4:3] in bits 11:10, q[2:0] in bits 2:0 (R107). -/
def fieldDisp (w : Nat) : Fin 64 := Fin.ofNat 64 (bitsAt w 13 1 * 32 + bitsAt w 10 2 * 8 + bitsAt w 0 3)

/-- A[5:4] in bits 10:9 and A[3:0] in bits 3:0 (R110). -/
def fieldIo (w : Nat) : Fin 64 := Fin.ofNat 64 (bitsAt w 9 2 * 16 + bitsAt w 0 4)

/-- A in bits 7:3 (R111). -/
def fieldIoLow (w : Nat) : Fin 32 := Fin.ofNat 32 (bitsAt w 3 5)

/-- Bits 2:0, a bit number (R111, R113, R114). -/
def fieldBit (w : Nat) : BitNum := Fin.ofNat 8 (bitsAt w 0 3)

/-- K[5:4] in bits 7:6 and K[3:0] in bits 3:0 (R109). -/
def fieldWordImm (w : Nat) : Fin 64 := Fin.ofNat 64 (bitsAt w 6 2 * 16 + bitsAt w 0 4)

/-- R24 + 2 × bits 5:4 (R109). -/
def fieldWordReg (w : Nat) : Reg := Fin.ofNat 32 (24 + 2 * bitsAt w 4 2)

/-- The seven bits 9:3 of a conditional branch (R113). -/
def fieldBranch (w : Nat) : BitVec 7 := BitVec.ofNat 7 (bitsAt w 3 7)

/-- Bits 10, 9, 8, 3, 2, 1, 0 of a 16-bit LDS or STS, k6 … k0 (R108, spec/43_data_transfer.md R264). -/
def fieldShortAddr (w : Nat) : BitVec 7 := BitVec.ofNat 7 (bitsAt w 8 3 * 16 + bitsAt w 0 4)

/-- k[21:17] in bits 8:4, k[16] in bit 0 and k[15:0] in the second word (R116). -/
def fieldAbs (w w2 : Nat) : BitVec 22 := BitVec.ofNat 22 (bitsAt w 4 5 * 131072 + bitsAt w 0 1 * 65536 + w2)

/-- `IsTwoWord` (R101): the word is the first of a JMP, CALL, LDS or STS. -/
def isTwoWord (w : Word16) : Bool := w &&& 0xFE0C#16 == 0x940C#16 || w &&& 0xFC0F#16 == 0x9000#16

/-- `0000 00xx`: NOP, MOVW, MULS, the three-bit multiplies (R117, R118, R119, R121). -/
def decodeLow (w : Nat) : Option Instr :=
  if bitsAt w 8 2 = 0 then (if w = 0 then some .nop else none)
  else if bitsAt w 8 2 = 1 then
    some (.movw (Fin.ofNat 32 (2 * bitsAt w 4 4)) (Fin.ofNat 32 (2 * bitsAt w 0 4)))
  else if bitsAt w 8 2 = 2 then some (.muls (fieldUpper w) (fieldUpperR w))
  else
    let d : Reg := Fin.ofNat 32 (16 + bitsAt w 4 3)
    let r : Reg := Fin.ofNat 32 (16 + bitsAt w 0 3)
    if bitsAt w 7 1 = 0 then (if bitsAt w 3 1 = 0 then some (.mulsu d r) else some (.fmul d r))
    else (if bitsAt w 3 1 = 0 then some (.fmuls d r) else some (.fmulsu d r))

/-- Top bits `0000` to `0010`: format RR (R102), and `decodeLow`. -/
def decodeTwoReg (w : Nat) : Option Instr :=
  let op := bitsAt w 10 4
  let d := fieldReg w
  let r := fieldRegR w
  if op = 0 then decodeLow w
  else if op = 1 then some (.cpc d r)
  else if op = 2 then some (.sbc d r)
  else if op = 3 then some (.add d r)
  else if op = 4 then some (.cpse d r)
  else if op = 5 then some (.cp d r)
  else if op = 6 then some (.sub d r)
  else if op = 7 then some (.adc d r)
  else if op = 8 then some (.and d r)
  else if op = 9 then some (.eor d r)
  else if op = 10 then some (.or d r)
  else some (.mov d r)

/-- Top bits `0011` to `0111` and `1110`: format RI (R103). -/
def decodeImm (w : Nat) : Option Instr :=
  let d := fieldUpper w
  let k := fieldImm w
  let op := bitsAt w 12 4
  if op = 3 then some (.cpi d k)
  else if op = 4 then some (.sbci d k)
  else if op = 5 then some (.subi d k)
  else if op = 6 then some (.ori d k)
  else if op = 7 then some (.andi d k)
  else some (.ldi d k)

/-- `10q0`: format LDD (R107). -/
def decodeDisp (w : Nat) : Option Instr :=
  let d := fieldReg w
  let q := fieldDisp w
  if bitsAt w 9 1 = 0 then (if bitsAt w 3 1 = 1 then some (.lddY d q) else some (.lddZ d q))
  else (if bitsAt w 3 1 = 1 then some (.stdY q d) else some (.stdZ q d))

/-- `1010` on a reduced core: format LDS16 (R108). -/
def decodeShort (w : Nat) : Option Instr :=
  if bitsAt w 11 1 = 0 then some (.lds16 (fieldUpper w) (fieldShortAddr w))
  else some (.sts16 (fieldShortAddr w) (fieldUpper w))

/-- `1001 000`: the load side of formats LDST and DIR16 (R105, R106). -/
def decodeLoad (w w2 : Nat) : Option Instr :=
  let d := fieldReg w
  let m := bitsAt w 0 4
  if m = 0 then some (.lds d (BitVec.ofNat 16 w2))
  else if m = 1 then some (.ldZInc d)
  else if m = 2 then some (.ldZDec d)
  else if m = 4 then some (.lpmZ d)
  else if m = 5 then some (.lpmZInc d)
  else if m = 6 then some (.elpmZ d)
  else if m = 7 then some (.elpmZInc d)
  else if m = 9 then some (.ldYInc d)
  else if m = 10 then some (.ldYDec d)
  else if m = 12 then some (.ldX d)
  else if m = 13 then some (.ldXInc d)
  else if m = 14 then some (.ldXDec d)
  else if m = 15 then some (.pop d)
  else none

/-- `1001 001`: the store side of formats LDST and DIR16 (R105, R106). -/
def decodeStore (w w2 : Nat) : Option Instr :=
  let r := fieldReg w
  let m := bitsAt w 0 4
  if m = 0 then some (.sts (BitVec.ofNat 16 w2) r)
  else if m = 1 then some (.stZInc r)
  else if m = 2 then some (.stZDec r)
  else if m = 9 then some (.stYInc r)
  else if m = 10 then some (.stYDec r)
  else if m = 12 then some (.stX r)
  else if m = 13 then some (.stXInc r)
  else if m = 14 then some (.stXDec r)
  else if m = 15 then some (.push r)
  else none

/-- `1001 0101 xxxx 1000`: the operand-less control instructions (R121). -/
def decodeControl (w : Nat) : Option Instr :=
  let x := bitsAt w 4 4
  if x = 0 then some .ret
  else if x = 1 then some .reti
  else if x = 8 then some .sleep
  else if x = 9 then some .brk
  else if x = 10 then some .wdr
  else if x = 12 then some .lpmR0
  else if x = 13 then some .elpmR0
  else if x = 14 then some .spm
  else if x = 15 then some .spmZInc
  else none

/-- `1001 010x xxxx 1000`: the SREG bit instructions (R115) or `decodeControl`. -/
def decodeFlag (w : Nat) : Option Instr :=
  if bitsAt w 8 1 = 1 then decodeControl w
  else if bitsAt w 7 1 = 0 then some (.bset (Fin.ofNat 8 (bitsAt w 4 3)))
  else some (.bclr (Fin.ofNat 8 (bitsAt w 4 3)))

/-- `1001 010x xxxx 1001`: the indirect jumps and calls (R121). -/
def decodeIndirect (w : Nat) : Option Instr :=
  let x := bitsAt w 4 5
  if x = 0 then some .ijmp
  else if x = 1 then some .eijmp
  else if x = 16 then some .icall
  else if x = 17 then some .eicall
  else none

/-- `1001 010`: formats R1, SREGBIT, DES, ABS22 and FIXED (R104, R115, R116, R120, R121). -/
def decodeOneReg (w w2 : Nat) : Option Instr :=
  let d := fieldReg w
  let m := bitsAt w 0 4
  if m = 0 then some (.com d)
  else if m = 1 then some (.neg d)
  else if m = 2 then some (.swap d)
  else if m = 3 then some (.inc d)
  else if m = 5 then some (.asr d)
  else if m = 6 then some (.lsr d)
  else if m = 7 then some (.ror d)
  else if m = 8 then decodeFlag w
  else if m = 9 then decodeIndirect w
  else if m = 10 then some (.dec d)
  else if m = 11 then (if bitsAt w 8 1 = 0 then some (.des (Fin.ofNat 16 (bitsAt w 4 4))) else none)
  else if m = 12 ∨ m = 13 then some (.jmp (fieldAbs w w2))
  else if m = 14 ∨ m = 15 then some (.call (fieldAbs w w2))
  else none

/-- `1001`: everything between the loads and MUL (R123). -/
def decodeNine (w w2 : Nat) : Option Instr :=
  let x := bitsAt w 8 4
  if x = 0 ∨ x = 1 then decodeLoad w w2
  else if x = 2 ∨ x = 3 then decodeStore w w2
  else if x = 4 ∨ x = 5 then decodeOneReg w w2
  else if x = 6 then some (.adiw (fieldWordReg w) (fieldWordImm w))
  else if x = 7 then some (.sbiw (fieldWordReg w) (fieldWordImm w))
  else if x = 8 then some (.cbi (fieldIoLow w) (fieldBit w))
  else if x = 9 then some (.sbic (fieldIoLow w) (fieldBit w))
  else if x = 10 then some (.sbi (fieldIoLow w) (fieldBit w))
  else if x = 11 then some (.sbis (fieldIoLow w) (fieldBit w))
  else some (.mul (fieldReg w) (fieldRegR w))

/-- `1111`: formats BR7 and RBIT (R113, R114). -/
def decodeBranch (w : Nat) : Option Instr :=
  if bitsAt w 11 1 = 0 then
    (if bitsAt w 10 1 = 0 then some (.brbs (fieldBit w) (fieldBranch w))
     else some (.brbc (fieldBit w) (fieldBranch w)))
  else if bitsAt w 3 1 = 1 then none
  else if bitsAt w 9 2 = 0 then some (.bld (fieldReg w) (fieldBit w))
  else if bitsAt w 9 2 = 1 then some (.bst (fieldReg w) (fieldBit w))
  else if bitsAt w 9 2 = 2 then some (.sbrc (fieldReg w) (fieldBit w))
  else some (.sbrs (fieldReg w) (fieldBit w))

/-- Steps (1) and (2) of R122: the row of the first word `w`, with `w2` as the second word if the row has one.
Alias rows never take part. -/
def decodeRow (reduced : Bool) (w w2 : Nat) : Option Instr :=
  let x := bitsAt w 12 4
  if x = 0 ∨ x = 1 ∨ x = 2 then decodeTwoReg w
  else if x = 3 ∨ x = 4 ∨ x = 5 ∨ x = 6 ∨ x = 7 then decodeImm w
  else if x = 8 then decodeDisp w
  else if x = 9 then decodeNine w w2
  else if x = 10 then (if reduced then decodeShort w else decodeDisp w)
  else if x = 11 then
    (if bitsAt w 11 1 = 0 then some (.ioIn (fieldReg w) (fieldIo w)) else some (.ioOut (fieldIo w) (fieldReg w)))
  else if x = 12 then some (.rjmp (BitVec.ofNat 12 w))
  else if x = 13 then some (.rcall (BitVec.ofNat 12 w))
  else if x = 14 then decodeImm w
  else decodeBranch w

/-- The instruction an alias names (R128); every other instruction is its own. -/
def Instr.canonical : Instr → Instr
  | .add d r => .add d r
  | .adc d r => .adc d r
  | .adiw d k => .adiw d k
  | .sub d r => .sub d r
  | .subi d k => .subi d k
  | .sbc d r => .sbc d r
  | .sbci d k => .sbci d k
  | .sbiw d k => .sbiw d k
  | .and d r => .and d r
  | .andi d k => .andi d k
  | .or d r => .or d r
  | .ori d k => .ori d k
  | .eor d r => .eor d r
  | .com d => .com d
  | .neg d => .neg d
  | .sbr d k => .ori d k
  | .cbr d k => .andi d (~~~k)
  | .inc d => .inc d
  | .dec d => .dec d
  | .tst d => .and d d
  | .clr d => .eor d d
  | .ser d => .ldi d 0xFF#8
  | .mul d r => .mul d r
  | .muls d r => .muls d r
  | .mulsu d r => .mulsu d r
  | .fmul d r => .fmul d r
  | .fmuls d r => .fmuls d r
  | .fmulsu d r => .fmulsu d r
  | .des k => .des k
  | .rjmp k => .rjmp k
  | .ijmp => .ijmp
  | .eijmp => .eijmp
  | .jmp k => .jmp k
  | .rcall k => .rcall k
  | .icall => .icall
  | .eicall => .eicall
  | .call k => .call k
  | .ret => .ret
  | .reti => .reti
  | .cpse d r => .cpse d r
  | .cp d r => .cp d r
  | .cpc d r => .cpc d r
  | .cpi d k => .cpi d k
  | .sbrc r b => .sbrc r b
  | .sbrs r b => .sbrs r b
  | .sbic a b => .sbic a b
  | .sbis a b => .sbis a b
  | .brbs b k => .brbs b k
  | .brbc b k => .brbc b k
  | .breq k => .brbs 1 k
  | .brne k => .brbc 1 k
  | .brcs k => .brbs 0 k
  | .brcc k => .brbc 0 k
  | .brsh k => .brbc 0 k
  | .brlo k => .brbs 0 k
  | .brmi k => .brbs 2 k
  | .brpl k => .brbc 2 k
  | .brge k => .brbc 4 k
  | .brlt k => .brbs 4 k
  | .brhs k => .brbs 5 k
  | .brhc k => .brbc 5 k
  | .brts k => .brbs 6 k
  | .brtc k => .brbc 6 k
  | .brvs k => .brbs 3 k
  | .brvc k => .brbc 3 k
  | .brie k => .brbs 7 k
  | .brid k => .brbc 7 k
  | .mov d r => .mov d r
  | .movw d r => .movw d r
  | .ldi d k => .ldi d k
  | .lds d k => .lds d k
  | .lds16 d k => .lds16 d k
  | .ldX d => .ldX d
  | .ldXInc d => .ldXInc d
  | .ldXDec d => .ldXDec d
  | .ldY d => .lddY d 0
  | .ldYInc d => .ldYInc d
  | .ldYDec d => .ldYDec d
  | .lddY d q => .lddY d q
  | .ldZ d => .lddZ d 0
  | .ldZInc d => .ldZInc d
  | .ldZDec d => .ldZDec d
  | .lddZ d q => .lddZ d q
  | .sts k r => .sts k r
  | .sts16 k r => .sts16 k r
  | .stX r => .stX r
  | .stXInc r => .stXInc r
  | .stXDec r => .stXDec r
  | .stY r => .stdY 0 r
  | .stYInc r => .stYInc r
  | .stYDec r => .stYDec r
  | .stdY q r => .stdY q r
  | .stZ r => .stdZ 0 r
  | .stZInc r => .stZInc r
  | .stZDec r => .stZDec r
  | .stdZ q r => .stdZ q r
  | .ioIn d a => .ioIn d a
  | .ioOut a r => .ioOut a r
  | .push r => .push r
  | .pop d => .pop d
  | .lpmR0 => .lpmR0
  | .lpmZ d => .lpmZ d
  | .lpmZInc d => .lpmZInc d
  | .elpmR0 => .elpmR0
  | .elpmZ d => .elpmZ d
  | .elpmZInc d => .elpmZInc d
  | .spm => .spm
  | .spmZInc => .spmZInc
  | .lsl d => .add d d
  | .lsr d => .lsr d
  | .rol d => .adc d d
  | .ror d => .ror d
  | .asr d => .asr d
  | .swap d => .swap d
  | .bset b => .bset b
  | .bclr b => .bclr b
  | .sbi a b => .sbi a b
  | .cbi a b => .cbi a b
  | .bst d b => .bst d b
  | .bld d b => .bld d b
  | .sec => .bset 0
  | .clc => .bclr 0
  | .sen => .bset 2
  | .cln => .bclr 2
  | .sez => .bset 1
  | .clz => .bclr 1
  | .sei => .bset 7
  | .cli => .bclr 7
  | .ses => .bset 4
  | .cls => .bclr 4
  | .sev => .bset 3
  | .clv => .bclr 3
  | .setT => .bset 6
  | .clt => .bclr 6
  | .seh => .bset 5
  | .clh => .bclr 5
  | .brk => .brk
  | .nop => .nop
  | .sleep => .sleep
  | .wdr => .wdr

/-- The rows of `AVAILABLE` that provide the instruction; none means that every device has it (R5). The words with
q = 0 are provided by the LD and ST rows too (R128). An alias is provided by what it names. -/
def Instr.rows : Instr → List OptionalRow
  | .add _ _ => []
  | .adc _ _ => []
  | .adiw _ _ => [.adiw]
  | .sub _ _ => []
  | .subi _ _ => []
  | .sbc _ _ => []
  | .sbci _ _ => []
  | .sbiw _ _ => [.sbiw]
  | .and _ _ => []
  | .andi _ _ => []
  | .or _ _ => []
  | .ori _ _ => []
  | .eor _ _ => []
  | .com _ => []
  | .neg _ => []
  | .sbr _ _ => []
  | .cbr _ _ => []
  | .inc _ => []
  | .dec _ => []
  | .tst _ => []
  | .clr _ => []
  | .ser _ => []
  | .mul _ _ => [.mul]
  | .muls _ _ => [.muls]
  | .mulsu _ _ => [.mulsu]
  | .fmul _ _ => [.fmul]
  | .fmuls _ _ => [.fmuls]
  | .fmulsu _ _ => [.fmulsu]
  | .des _ => [.des]
  | .rjmp _ => []
  | .ijmp => [.ijmp]
  | .eijmp => [.eijmp]
  | .jmp _ => [.jmp]
  | .rcall _ => []
  | .icall => [.icall]
  | .eicall => [.eicall]
  | .call _ => [.call]
  | .ret => []
  | .reti => []
  | .cpse _ _ => []
  | .cp _ _ => []
  | .cpc _ _ => []
  | .cpi _ _ => []
  | .sbrc _ _ => []
  | .sbrs _ _ => []
  | .sbic _ _ => []
  | .sbis _ _ => []
  | .brbs _ _ => []
  | .brbc _ _ => []
  | .breq _ => []
  | .brne _ => []
  | .brcs _ => []
  | .brcc _ => []
  | .brsh _ => []
  | .brlo _ => []
  | .brmi _ => []
  | .brpl _ => []
  | .brge _ => []
  | .brlt _ => []
  | .brhs _ => []
  | .brhc _ => []
  | .brts _ => []
  | .brtc _ => []
  | .brvs _ => []
  | .brvc _ => []
  | .brie _ => []
  | .brid _ => []
  | .mov _ _ => []
  | .movw _ _ => [.movw]
  | .ldi _ _ => []
  | .lds _ _ => [.lds]
  | .lds16 _ _ => [.lds16]
  | .ldX _ => [.ldX]
  | .ldXInc _ => [.ldXInc]
  | .ldXDec _ => [.ldXDec]
  | .ldY _ => [.lddY, .ldY]
  | .ldYInc _ => [.ldYInc]
  | .ldYDec _ => [.ldYDec]
  | .lddY _ q => if q = 0 then [.lddY, .ldY] else [.lddY]
  | .ldZ _ => [.lddZ, .ldZ]
  | .ldZInc _ => [.ldZInc]
  | .ldZDec _ => [.ldZDec]
  | .lddZ _ q => if q = 0 then [.lddZ, .ldZ] else [.lddZ]
  | .sts _ _ => [.sts]
  | .sts16 _ _ => [.sts16]
  | .stX _ => [.stX]
  | .stXInc _ => [.stXInc]
  | .stXDec _ => [.stXDec]
  | .stY _ => [.stdY, .stY]
  | .stYInc _ => [.stYInc]
  | .stYDec _ => [.stYDec]
  | .stdY q _ => if q = 0 then [.stdY, .stY] else [.stdY]
  | .stZ _ => [.stdZ, .stZ]
  | .stZInc _ => [.stZInc]
  | .stZDec _ => [.stZDec]
  | .stdZ q _ => if q = 0 then [.stdZ, .stZ] else [.stdZ]
  | .ioIn _ _ => []
  | .ioOut _ _ => []
  | .push _ => [.push]
  | .pop _ => [.pop]
  | .lpmR0 => [.lpmR0]
  | .lpmZ _ => [.lpmZ]
  | .lpmZInc _ => [.lpmZInc]
  | .elpmR0 => [.elpmR0]
  | .elpmZ _ => [.elpmZ]
  | .elpmZInc _ => [.elpmZInc]
  | .spm => [.spm]
  | .spmZInc => [.spmZInc]
  | .lsl _ => []
  | .lsr _ => []
  | .rol _ => []
  | .ror _ => []
  | .asr _ => []
  | .swap _ => []
  | .bset _ => []
  | .bclr _ => []
  | .sbi _ _ => []
  | .cbi _ _ => []
  | .bst _ _ => []
  | .bld _ _ => []
  | .sec => []
  | .clc => []
  | .sen => []
  | .cln => []
  | .sez => []
  | .clz => []
  | .sei => []
  | .cli => []
  | .ses => []
  | .cls => []
  | .sev => []
  | .clv => []
  | .setT => []
  | .clt => []
  | .seh => []
  | .clh => []
  | .brk => [.brk]
  | .nop => []
  | .sleep => []
  | .wdr => []

/-- The registers the instruction's fields name, both halves of a named pair included (R23, R24). -/
def Instr.namedRegs : Instr → List Reg
  | .add d r => [d, r]
  | .adc d r => [d, r]
  | .adiw d _ => [d, d + 1]
  | .sub d r => [d, r]
  | .subi d _ => [d]
  | .sbc d r => [d, r]
  | .sbci d _ => [d]
  | .sbiw d _ => [d, d + 1]
  | .and d r => [d, r]
  | .andi d _ => [d]
  | .or d r => [d, r]
  | .ori d _ => [d]
  | .eor d r => [d, r]
  | .com d => [d]
  | .neg d => [d]
  | .sbr d _ => [d]
  | .cbr d _ => [d]
  | .inc d => [d]
  | .dec d => [d]
  | .tst d => [d]
  | .clr d => [d]
  | .ser d => [d]
  | .mul d r => [d, r]
  | .muls d r => [d, r]
  | .mulsu d r => [d, r]
  | .fmul d r => [d, r]
  | .fmuls d r => [d, r]
  | .fmulsu d r => [d, r]
  | .des _ => []
  | .rjmp _ => []
  | .ijmp => []
  | .eijmp => []
  | .jmp _ => []
  | .rcall _ => []
  | .icall => []
  | .eicall => []
  | .call _ => []
  | .ret => []
  | .reti => []
  | .cpse d r => [d, r]
  | .cp d r => [d, r]
  | .cpc d r => [d, r]
  | .cpi d _ => [d]
  | .sbrc r _ => [r]
  | .sbrs r _ => [r]
  | .sbic _ _ => []
  | .sbis _ _ => []
  | .brbs _ _ => []
  | .brbc _ _ => []
  | .breq _ => []
  | .brne _ => []
  | .brcs _ => []
  | .brcc _ => []
  | .brsh _ => []
  | .brlo _ => []
  | .brmi _ => []
  | .brpl _ => []
  | .brge _ => []
  | .brlt _ => []
  | .brhs _ => []
  | .brhc _ => []
  | .brts _ => []
  | .brtc _ => []
  | .brvs _ => []
  | .brvc _ => []
  | .brie _ => []
  | .brid _ => []
  | .mov d r => [d, r]
  | .movw d r => [d, d + 1, r, r + 1]
  | .ldi d _ => [d]
  | .lds d _ => [d]
  | .lds16 d _ => [d]
  | .ldX d => [d]
  | .ldXInc d => [d]
  | .ldXDec d => [d]
  | .ldY d => [d]
  | .ldYInc d => [d]
  | .ldYDec d => [d]
  | .lddY d _ => [d]
  | .ldZ d => [d]
  | .ldZInc d => [d]
  | .ldZDec d => [d]
  | .lddZ d _ => [d]
  | .sts _ r => [r]
  | .sts16 _ r => [r]
  | .stX r => [r]
  | .stXInc r => [r]
  | .stXDec r => [r]
  | .stY r => [r]
  | .stYInc r => [r]
  | .stYDec r => [r]
  | .stdY _ r => [r]
  | .stZ r => [r]
  | .stZInc r => [r]
  | .stZDec r => [r]
  | .stdZ _ r => [r]
  | .ioIn d _ => [d]
  | .ioOut _ r => [r]
  | .push r => [r]
  | .pop d => [d]
  | .lpmR0 => []
  | .lpmZ d => [d]
  | .lpmZInc d => [d]
  | .elpmR0 => []
  | .elpmZ d => [d]
  | .elpmZInc d => [d]
  | .spm => []
  | .spmZInc => []
  | .lsl d => [d]
  | .lsr d => [d]
  | .rol d => [d]
  | .ror d => [d]
  | .asr d => [d]
  | .swap d => [d]
  | .bset _ => []
  | .bclr _ => []
  | .sbi _ _ => []
  | .cbi _ _ => []
  | .bst d _ => [d]
  | .bld d _ => [d]
  | .sec => []
  | .clc => []
  | .sen => []
  | .cln => []
  | .sez => []
  | .clz => []
  | .sei => []
  | .cli => []
  | .ses => []
  | .cls => []
  | .sev => []
  | .clv => []
  | .setT => []
  | .clt => []
  | .seh => []
  | .clh => []
  | .brk => []
  | .nop => []
  | .sleep => []
  | .wdr => []

/-- What else must be present: EIND for the extended jump and call (spec/42_branch.md R204, R208), RAMPZ for ELPM
(spec/44_program_memory.md R323), the reduced core for the 16-bit LDS and STS (R5). On a reduced core no LDD or STD with q ≠ 0
is present: its words are reserved for q below 32 and those of the 16-bit LDS and STS from there (R125, log 34). -/
def Instr.unitPresent (c : Config) : Instr → Bool
  | .add _ _ => true
  | .adc _ _ => true
  | .adiw _ _ => true
  | .sub _ _ => true
  | .subi _ _ => true
  | .sbc _ _ => true
  | .sbci _ _ => true
  | .sbiw _ _ => true
  | .and _ _ => true
  | .andi _ _ => true
  | .or _ _ => true
  | .ori _ _ => true
  | .eor _ _ => true
  | .com _ => true
  | .neg _ => true
  | .sbr _ _ => true
  | .cbr _ _ => true
  | .inc _ => true
  | .dec _ => true
  | .tst _ => true
  | .clr _ => true
  | .ser _ => true
  | .mul _ _ => true
  | .muls _ _ => true
  | .mulsu _ _ => true
  | .fmul _ _ => true
  | .fmuls _ _ => true
  | .fmulsu _ _ => true
  | .des _ => true
  | .rjmp _ => true
  | .ijmp => true
  | .eijmp => c.hasEind
  | .jmp _ => true
  | .rcall _ => true
  | .icall => true
  | .eicall => c.hasEind
  | .call _ => true
  | .ret => true
  | .reti => true
  | .cpse _ _ => true
  | .cp _ _ => true
  | .cpc _ _ => true
  | .cpi _ _ => true
  | .sbrc _ _ => true
  | .sbrs _ _ => true
  | .sbic _ _ => true
  | .sbis _ _ => true
  | .brbs _ _ => true
  | .brbc _ _ => true
  | .breq _ => true
  | .brne _ => true
  | .brcs _ => true
  | .brcc _ => true
  | .brsh _ => true
  | .brlo _ => true
  | .brmi _ => true
  | .brpl _ => true
  | .brge _ => true
  | .brlt _ => true
  | .brhs _ => true
  | .brhc _ => true
  | .brts _ => true
  | .brtc _ => true
  | .brvs _ => true
  | .brvc _ => true
  | .brie _ => true
  | .brid _ => true
  | .mov _ _ => true
  | .movw _ _ => true
  | .ldi _ _ => true
  | .lds _ _ => true
  | .lds16 _ _ => c.reducedCore
  | .ldX _ => true
  | .ldXInc _ => true
  | .ldXDec _ => true
  | .ldY _ => true
  | .ldYInc _ => true
  | .ldYDec _ => true
  | .lddY _ q => !c.reducedCore || q == 0
  | .ldZ _ => true
  | .ldZInc _ => true
  | .ldZDec _ => true
  | .lddZ _ q => !c.reducedCore || q == 0
  | .sts _ _ => true
  | .sts16 _ _ => c.reducedCore
  | .stX _ => true
  | .stXInc _ => true
  | .stXDec _ => true
  | .stY _ => true
  | .stYInc _ => true
  | .stYDec _ => true
  | .stdY q _ => !c.reducedCore || q == 0
  | .stZ _ => true
  | .stZInc _ => true
  | .stZDec _ => true
  | .stdZ q _ => !c.reducedCore || q == 0
  | .ioIn _ _ => true
  | .ioOut _ _ => true
  | .push _ => true
  | .pop _ => true
  | .lpmR0 => true
  | .lpmZ _ => true
  | .lpmZInc _ => true
  | .elpmR0 => c.hasRampZ
  | .elpmZ _ => c.hasRampZ
  | .elpmZInc _ => c.hasRampZ
  | .spm => true
  | .spmZInc => true
  | .lsl _ => true
  | .lsr _ => true
  | .rol _ => true
  | .ror _ => true
  | .asr _ => true
  | .swap _ => true
  | .bset _ => true
  | .bclr _ => true
  | .sbi _ _ => true
  | .cbi _ _ => true
  | .bst _ _ => true
  | .bld _ _ => true
  | .sec => true
  | .clc => true
  | .sen => true
  | .cln => true
  | .sez => true
  | .clz => true
  | .sei => true
  | .cli => true
  | .ses => true
  | .cls => true
  | .sev => true
  | .clv => true
  | .setT => true
  | .clt => true
  | .seh => true
  | .clh => true
  | .brk => true
  | .nop => true
  | .sleep => true
  | .wdr => true

/-- Why a first word decodes to nothing. All three are `ReservedOpcode` (R126). -/
inductive Rejection where
  /-- No opcode box covers the word (R125). -/
  | noRow
  /-- The device lacks the instruction (spec/00_scope.md R5, R125). -/
  | notOnDevice
  /-- A reduced core, and a field names one of R0 to R15 (spec/10_state.md R24). -/
  | noSuchRegister
  deriving DecidableEq, Repr

/-- What the decoder answers. -/
inductive Decoded where
  | instr (i : Instr)
  | rejected (why : Rejection)
  deriving DecidableEq, Repr

/-- The device has one of the rows that provide the instruction (R5), and the registers or the core it needs. -/
def Config.offers (c : Config) (i : Instr) : Bool :=
  (i.rows.isEmpty || i.rows.any (fun r => c.available.contains r)) && i.unitPresent c

/-- The device has every register the instruction's fields name (R24). Whether a reduced core has the registers an instruction
uses without naming them (R0 in LPM and ELPM without operand, R1:R0 of the multiplies and SPM, R0 to R15 of DES) is not in the
source; where `AVAILABLE` lists such a row the model runs it on them (DESIGN CHOICE, log 38). -/
def Config.hasRegs (c : Config) (i : Instr) : Bool :=
  !c.reducedCore || i.namedRegs.all upperReg

/-- The decoding procedure of R122 on a first word `w`, with `w2` as second word where the row has two. -/
def decode (c : Config) (w w2 : Word16) : Decoded :=
  match decodeRow c.reducedCore w.toNat w2.toNat with
  | none => .rejected .noRow
  | some i =>
    if !c.offers i then .rejected .notOnDevice
    else if !c.hasRegs i then .rejected .noSuchRegister
    else .instr i

/-! ### The encoder -/

/-- Format RR with the six operation bits `op` (R102). -/
def encRR (op : Nat) (d r : Reg) : Nat := op * 1024 + r.val / 16 * 512 + d.val * 16 + r.val % 16

/-- Format RI with the four operation bits `op` (R103). -/
def encRI (op : Nat) (d : Reg) (k : BitVec 8) : Nat :=
  op * 4096 + k.toNat / 16 * 256 + (d.val - 16) * 16 + k.toNat % 16

/-- Format R1 (R104), and the one-register words of the group `1001 010`. -/
def encR1 (op : Nat) (d : Reg) : Nat := 0x9400 + d.val * 16 + op

/-- Format LDST (R105): side `s` and mode `m`. -/
def encLdSt (s m : Nat) (d : Reg) : Nat := 0x9000 + s * 512 + d.val * 16 + m

/-- Format LDD (R107): side `s`, pointer bit `y`. -/
def encDisp (s y : Nat) (d : Reg) (q : Fin 64) : Nat :=
  0x8000 + q.val / 32 * 8192 + q.val / 8 % 4 * 1024 + s * 512 + d.val * 16 + y * 8 + q.val % 8

/-- Format LDS16 (R108): side `s`. -/
def encShort (s : Nat) (d : Reg) (k : BitVec 7) : Nat :=
  0xA000 + s * 2048 + k.toNat / 16 * 256 + (d.val - 16) * 16 + k.toNat % 16

/-- Format IW (R109). -/
def encIW (o : Nat) (d : Reg) (k : Fin 64) : Nat :=
  0x9600 + o * 256 + k.val / 16 * 64 + (d.val - 24) / 2 * 16 + k.val % 16

/-- Format IO (R110). -/
def encIO (s : Nat) (d : Reg) (a : Fin 64) : Nat := 0xB000 + s * 2048 + a.val / 16 * 512 + d.val * 16 + a.val % 16

/-- Format IOBIT (R111). -/
def encIoBit (o : Nat) (a : Fin 32) (b : BitNum) : Nat := 0x9800 + o * 256 + a.val * 8 + b.val

/-- Format BR7 (R113). -/
def encBr (o : Nat) (s : BitNum) (k : BitVec 7) : Nat := 0xF000 + o * 1024 + k.toNat * 8 + s.val

/-- Format RBIT (R114). -/
def encRBit (o : Nat) (d : Reg) (b : BitNum) : Nat := 0xF800 + o * 512 + d.val * 16 + b.val

/-- Format SREGBIT (R115). -/
def encSreg (o : Nat) (s : BitNum) : Nat := 0x9408 + o * 128 + s.val * 16

/-- The first word of format ABS22 (R116). -/
def encAbs (o : Nat) (k : BitVec 22) : Nat :=
  0x940C + k.toNat / 131072 * 16 + o * 2 + k.toNat / 65536 % 2

/-- Format MUL3 (R119): bit 7 and bit 3. -/
def encMul3 (o7 o3 : Nat) (d r : Reg) : Nat := 0x0300 + o7 * 128 + (d.val - 16) * 16 + o3 * 8 + (r.val - 16)

/-- The first word of an instruction, from its opcode box (R102 to R121). -/
def encodeFirst : Instr → Nat
  | .add d r => encRR 3 d r
  | .adc d r => encRR 7 d r
  | .adiw d k => encIW 0 d k
  | .sub d r => encRR 6 d r
  | .subi d k => encRI 5 d k
  | .sbc d r => encRR 2 d r
  | .sbci d k => encRI 4 d k
  | .sbiw d k => encIW 1 d k
  | .and d r => encRR 8 d r
  | .andi d k => encRI 7 d k
  | .or d r => encRR 10 d r
  | .ori d k => encRI 6 d k
  | .eor d r => encRR 9 d r
  | .com d => encR1 0 d
  | .neg d => encR1 1 d
  | .sbr d k => encRI 6 d k
  | .cbr d k => encRI 7 d (0xFF#8 - k)
  | .inc d => encR1 3 d
  | .dec d => encR1 10 d
  | .tst d => encRR 8 d d
  | .clr d => encRR 9 d d
  | .ser d => encRI 14 d 0xFF#8
  | .mul d r => encRR 39 d r
  | .muls d r => 0x0200 + (d.val - 16) * 16 + (r.val - 16)
  | .mulsu d r => encMul3 0 0 d r
  | .fmul d r => encMul3 0 1 d r
  | .fmuls d r => encMul3 1 0 d r
  | .fmulsu d r => encMul3 1 1 d r
  | .des k => 0x940B + k.val * 16
  | .rjmp k => 0xC000 + k.toNat
  | .ijmp => 0x9409
  | .eijmp => 0x9419
  | .jmp k => encAbs 0 k
  | .rcall k => 0xD000 + k.toNat
  | .icall => 0x9509
  | .eicall => 0x9519
  | .call k => encAbs 1 k
  | .ret => 0x9508
  | .reti => 0x9518
  | .cpse d r => encRR 4 d r
  | .cp d r => encRR 5 d r
  | .cpc d r => encRR 1 d r
  | .cpi d k => encRI 3 d k
  | .sbrc r b => encRBit 2 r b
  | .sbrs r b => encRBit 3 r b
  | .sbic a b => encIoBit 1 a b
  | .sbis a b => encIoBit 3 a b
  | .brbs b k => encBr 0 b k
  | .brbc b k => encBr 1 b k
  | .breq k => encBr 0 1 k
  | .brne k => encBr 1 1 k
  | .brcs k => encBr 0 0 k
  | .brcc k => encBr 1 0 k
  | .brsh k => encBr 1 0 k
  | .brlo k => encBr 0 0 k
  | .brmi k => encBr 0 2 k
  | .brpl k => encBr 1 2 k
  | .brge k => encBr 1 4 k
  | .brlt k => encBr 0 4 k
  | .brhs k => encBr 0 5 k
  | .brhc k => encBr 1 5 k
  | .brts k => encBr 0 6 k
  | .brtc k => encBr 1 6 k
  | .brvs k => encBr 0 3 k
  | .brvc k => encBr 1 3 k
  | .brie k => encBr 0 7 k
  | .brid k => encBr 1 7 k
  | .mov d r => encRR 11 d r
  | .movw d r => 0x0100 + d.val / 2 * 16 + r.val / 2
  | .ldi d k => encRI 14 d k
  | .lds d _ => encLdSt 0 0 d
  | .lds16 d k => encShort 0 d k
  | .ldX d => encLdSt 0 12 d
  | .ldXInc d => encLdSt 0 13 d
  | .ldXDec d => encLdSt 0 14 d
  | .ldY d => encDisp 0 1 d 0
  | .ldYInc d => encLdSt 0 9 d
  | .ldYDec d => encLdSt 0 10 d
  | .lddY d q => encDisp 0 1 d q
  | .ldZ d => encDisp 0 0 d 0
  | .ldZInc d => encLdSt 0 1 d
  | .ldZDec d => encLdSt 0 2 d
  | .lddZ d q => encDisp 0 0 d q
  | .sts _ r => encLdSt 1 0 r
  | .sts16 k r => encShort 1 r k
  | .stX r => encLdSt 1 12 r
  | .stXInc r => encLdSt 1 13 r
  | .stXDec r => encLdSt 1 14 r
  | .stY r => encDisp 1 1 r 0
  | .stYInc r => encLdSt 1 9 r
  | .stYDec r => encLdSt 1 10 r
  | .stdY q r => encDisp 1 1 r q
  | .stZ r => encDisp 1 0 r 0
  | .stZInc r => encLdSt 1 1 r
  | .stZDec r => encLdSt 1 2 r
  | .stdZ q r => encDisp 1 0 r q
  | .ioIn d a => encIO 0 d a
  | .ioOut a r => encIO 1 r a
  | .push r => encLdSt 1 15 r
  | .pop d => encLdSt 0 15 d
  | .lpmR0 => 0x95C8
  | .lpmZ d => encLdSt 0 4 d
  | .lpmZInc d => encLdSt 0 5 d
  | .elpmR0 => 0x95D8
  | .elpmZ d => encLdSt 0 6 d
  | .elpmZInc d => encLdSt 0 7 d
  | .spm => 0x95E8
  | .spmZInc => 0x95F8
  | .lsl d => encRR 3 d d
  | .lsr d => encR1 6 d
  | .rol d => encRR 7 d d
  | .ror d => encR1 7 d
  | .asr d => encR1 5 d
  | .swap d => encR1 2 d
  | .bset b => encSreg 0 b
  | .bclr b => encSreg 1 b
  | .sbi a b => encIoBit 2 a b
  | .cbi a b => encIoBit 0 a b
  | .bst d b => encRBit 1 d b
  | .bld d b => encRBit 0 d b
  | .sec => encSreg 0 0
  | .clc => encSreg 1 0
  | .sen => encSreg 0 2
  | .cln => encSreg 1 2
  | .sez => encSreg 0 1
  | .clz => encSreg 1 1
  | .sei => encSreg 0 7
  | .cli => encSreg 1 7
  | .ses => encSreg 0 4
  | .cls => encSreg 1 4
  | .sev => encSreg 0 3
  | .clv => encSreg 1 3
  | .setT => encSreg 0 6
  | .clt => encSreg 1 6
  | .seh => encSreg 0 5
  | .clh => encSreg 1 5
  | .brk => 0x9598
  | .nop => 0x0000
  | .sleep => 0x9588
  | .wdr => 0x95A8

/-- The second word of a two-word instruction (R106, R116). -/
def encodeSecond : Instr → Option Word16
  | .add _ _ => none
  | .adc _ _ => none
  | .adiw _ _ => none
  | .sub _ _ => none
  | .subi _ _ => none
  | .sbc _ _ => none
  | .sbci _ _ => none
  | .sbiw _ _ => none
  | .and _ _ => none
  | .andi _ _ => none
  | .or _ _ => none
  | .ori _ _ => none
  | .eor _ _ => none
  | .com _ => none
  | .neg _ => none
  | .sbr _ _ => none
  | .cbr _ _ => none
  | .inc _ => none
  | .dec _ => none
  | .tst _ => none
  | .clr _ => none
  | .ser _ => none
  | .mul _ _ => none
  | .muls _ _ => none
  | .mulsu _ _ => none
  | .fmul _ _ => none
  | .fmuls _ _ => none
  | .fmulsu _ _ => none
  | .des _ => none
  | .rjmp _ => none
  | .ijmp => none
  | .eijmp => none
  | .jmp k => some (k.setWidth 16)
  | .rcall _ => none
  | .icall => none
  | .eicall => none
  | .call k => some (k.setWidth 16)
  | .ret => none
  | .reti => none
  | .cpse _ _ => none
  | .cp _ _ => none
  | .cpc _ _ => none
  | .cpi _ _ => none
  | .sbrc _ _ => none
  | .sbrs _ _ => none
  | .sbic _ _ => none
  | .sbis _ _ => none
  | .brbs _ _ => none
  | .brbc _ _ => none
  | .breq _ => none
  | .brne _ => none
  | .brcs _ => none
  | .brcc _ => none
  | .brsh _ => none
  | .brlo _ => none
  | .brmi _ => none
  | .brpl _ => none
  | .brge _ => none
  | .brlt _ => none
  | .brhs _ => none
  | .brhc _ => none
  | .brts _ => none
  | .brtc _ => none
  | .brvs _ => none
  | .brvc _ => none
  | .brie _ => none
  | .brid _ => none
  | .mov _ _ => none
  | .movw _ _ => none
  | .ldi _ _ => none
  | .lds _ k => some k
  | .lds16 _ _ => none
  | .ldX _ => none
  | .ldXInc _ => none
  | .ldXDec _ => none
  | .ldY _ => none
  | .ldYInc _ => none
  | .ldYDec _ => none
  | .lddY _ _ => none
  | .ldZ _ => none
  | .ldZInc _ => none
  | .ldZDec _ => none
  | .lddZ _ _ => none
  | .sts k _ => some k
  | .sts16 _ _ => none
  | .stX _ => none
  | .stXInc _ => none
  | .stXDec _ => none
  | .stY _ => none
  | .stYInc _ => none
  | .stYDec _ => none
  | .stdY _ _ => none
  | .stZ _ => none
  | .stZInc _ => none
  | .stZDec _ => none
  | .stdZ _ _ => none
  | .ioIn _ _ => none
  | .ioOut _ _ => none
  | .push _ => none
  | .pop _ => none
  | .lpmR0 => none
  | .lpmZ _ => none
  | .lpmZInc _ => none
  | .elpmR0 => none
  | .elpmZ _ => none
  | .elpmZInc _ => none
  | .spm => none
  | .spmZInc => none
  | .lsl _ => none
  | .lsr _ => none
  | .rol _ => none
  | .ror _ => none
  | .asr _ => none
  | .swap _ => none
  | .bset _ => none
  | .bclr _ => none
  | .sbi _ _ => none
  | .cbi _ _ => none
  | .bst _ _ => none
  | .bld _ _ => none
  | .sec => none
  | .clc => none
  | .sen => none
  | .cln => none
  | .sez => none
  | .clz => none
  | .sei => none
  | .cli => none
  | .ses => none
  | .cls => none
  | .sev => none
  | .clv => none
  | .setT => none
  | .clt => none
  | .seh => none
  | .clh => none
  | .brk => none
  | .nop => none
  | .sleep => none
  | .wdr => none

/-- The words of a well-formed instruction, first word first (R122, `encoding`). -/
def encode (i : Instr) : List Word16 := BitVec.ofNat 16 (encodeFirst i) :: (encodeSecond i).toList

/-! ### The opcode table's numbering -/

/-- The first and second word of the instruction whose bits are `w`, numbered as spec/opcode_table.json numbers them.
A 16-bit row is the word itself. In a 32-bit row positions 31:16 are the first word and 15:0 the second (R122); where
only the low half is the first word of a two-word instruction, the halves are taken in the other order (log 17). -/
def tableWords (nbits w : Nat) : Word16 × Word16 :=
  let lo := BitVec.ofNat 16 w
  let hi := BitVec.ofNat 16 (w / 65536)
  if nbits ≤ 16 then (lo, 0#16)
  else if isTwoWord hi then (hi, lo)
  else (lo, hi)

/-- The instruction bytes as Program memory holds them, lowest byte address first (spec/20_memory.md R61, R70). -/
def tableBytes (nbits w : Nat) : List Byte :=
  let p := tableWords nbits w
  [p.1.setWidth 8, (p.1 >>> 8).setWidth 8, p.2.setWidth 8, (p.2 >>> 8).setWidth 8]

/-- A word from its low and high byte (R61). -/
def wordOfBytes (lo hi : Byte) : Word16 := hi ++ lo

/-- The instruction the decoder reads, on the reset device, from an instruction whose bits are `w` (log 17, log 18). -/
def decodeTableWord (nbits w : Nat) : Option Instr :=
  match tableBytes nbits w with
  | [b0, b1, b2, b3] =>
    match decode Machine.resetDevice (wordOfBytes b0 b1) (wordOfBytes b2 b3) with
    | .instr i => some i
    | .rejected _ => none
  | _ => none

end Sys2Proof
end

