-- ==== Sys2Proof/Machine/Memory.lean ====
section
/-! DEFINITION. Sparse byte storage in one canonical form: a list of (address, byte) cells with strictly rising
addresses. An unlisted address holds no value (spec/10_state.md R47, spec/70_reset_and_hazards.md R441), so no cell can
equal what an unlisted address reads as. -/
namespace Sys2Proof.Machine

/-- Bytes by address, lowest address first. -/
abbrev Memory := List Host.Cell

/-- The byte at address `a`, or none where nothing has been written. -/
def Memory.read : Memory → Nat → Option Byte
  | [], _ => none
  | (b, v) :: m, a => if a = b then some v else Memory.read m a

/-- The memory after `v` is written at `a`. -/
def Memory.write : Memory → Nat → Byte → Memory
  | [], a, v => [(a, v)]
  | (b, w) :: m, a, v =>
    if a = b then (a, v) :: m
    else if a < b then (a, v) :: (b, w) :: m
    else (b, w) :: Memory.write m a v

/-- Every address of `m` is above `a`, and the addresses rise strictly. -/
def Memory.risesAbove : Nat → Memory → Bool
  | _, [] => true
  | a, (b, _) :: m => decide (a < b) && Memory.risesAbove b m

/-- The canonical form: addresses strictly rising. -/
def Memory.wf : Memory → Bool
  | [] => true
  | (b, _) :: m => Memory.risesAbove b m

/-- The memory after the bytes `vs` are written from address `a` up. -/
def Memory.writeBytes : Memory → Nat → List Byte → Memory
  | m, _, [] => m
  | m, a, v :: vs => Memory.writeBytes (Memory.write m a v) (a + 1) vs

/-- The 16-bit word whose low byte is at `2 * a` and high byte at `2 * a + 1` (spec/20_memory.md R61). -/
def Memory.readWord (m : Memory) (a : Nat) : Option Word16 :=
  match Memory.read m (2 * a), Memory.read m (2 * a + 1) with
  | some lo, some hi => some (hi ++ lo)
  | _, _ => none

/-- The memory after the word `w` is written at word address `a` (R61). -/
def Memory.writeWord (m : Memory) (a : Nat) (w : Word16) : Memory :=
  Memory.write (Memory.write m (2 * a) (w.setWidth 8)) (2 * a + 1) ((w >>> 8).setWidth 8)

/-- The memory after `n` words, the `i`-th being `f i`, are written from word address `a` up. -/
def Memory.writeWords (m : Memory) (a : Nat) (f : Nat → Word16) : Nat → Memory
  | 0 => m
  | n + 1 => Memory.writeWord (Memory.writeWords m a f n) (a + n) (f n)

end Sys2Proof.Machine
end

