-- ==== Sys2Proof/Machine/State.lean ====
section
/-! DEFINITION. The state of the machine, all of it plain data, the reasons a step can stop, and the state after reset. -/
namespace Sys2Proof.Machine

/-- The index pointers X = R27:R26, Y = R29:R28, Z = R31:R30 (spec/10_state.md R21). -/
inductive Ptr where
  | x | y | z
  deriving DecidableEq, Repr

/-- The run state of the core (spec/10_state.md R43). -/
inductive RunState where
  | running | sleeping | stopped
  deriving DecidableEq, Repr

/-- One thing the outside does between two steps (spec/60_exceptions.md R423). -/
inductive Input where
  /-- Request `n` becomes pending and individually enabled (R404). -/
  | request (n : Nat)
  /-- Request `n` is no longer pending or no longer enabled. -/
  | withdraw (n : Nat)
  /-- The device answer of `SleepEnabled()` becomes `on` (spec/46_mcu_control.md R392). -/
  | sleepEnable (on : Bool)
  /-- A device changes a plain-storage I/O location (R423 (b)). -/
  | ioChange (a : Fin 64) (v : Byte)
  /-- A device changes a plain-storage Extended I/O location, at a data-space address. -/
  | extChange (a : Nat) (v : Byte)
  /-- Reset, by the host or by the watchdog (R423 (a) and (c), spec/70_reset_and_hazards.md R440). -/
  | reset
  deriving DecidableEq, Repr

/-- The address space an access out of range was made in (spec/20_memory.md R77). -/
inductive Space where
  | program | data
  deriving DecidableEq, Repr

/-- What the source calls undefined, and the spec's extension of it (spec/43_data_transfer.md R252). -/
inductive UndefinedUse where
  /-- LD Rd,P+ or LD Rd,-P with Rd one half of P. -/
  | pointerLoad (p : Ptr) (d : Reg)
  /-- ST P+,Rr or ST -P,Rr with Rr one half of P. -/
  | pointerStore (p : Ptr) (r : Reg)
  /-- ST P+,Rr or ST -P,Rr whose data address `a` is one of P's own two registers (spec/20_memory.md R67). -/
  | storeOntoPointer (p : Ptr) (a : Nat)
  /-- LPM Rd,Z+ with Rd one half of Z (spec/44_program_memory.md R322). -/
  | lpmPointer (d : Reg)
  /-- ELPM Rd,Z+ with Rd one half of Z (R325). -/
  | elpmPointer (d : Reg)
  deriving DecidableEq, Repr

/-- The model outcomes of spec/60_exceptions.md R401 that are faults. None is a hardware event: the step has no next
state (spec/00_scope.md R10). -/
inductive Fault where
  /-- Raised by the fetch of a first word with no meaning on this device (spec/30_encoding.md R126). Safe: the spec
  gives the word no effect. -/
  | reservedOpcode (w : Word16)
  /-- Raised by the loads, stores, LPM and ELPM the source calls undefined (R252). Safe: no effect is claimed. -/
  | undefinedUse (what : UndefinedUse)
  /-- Raised by an access nothing answers (spec/20_memory.md R77). Safe: no value is returned, nothing changes. -/
  | outOfRange (space : Space) (addr : Nat)
  /-- Raised by a read of an SRAM byte that holds no value (spec/70_reset_and_hazards.md R441). Safe: no value is
  invented. -/
  | unwritten (addr : Nat)
  deriving DecidableEq, Repr

/-- What the source hands to device documentation without giving any effect (spec/60_exceptions.md R401). -/
inductive DeviceUse where
  /-- A store to data address `a` inside the window onto Program memory (spec/20_memory.md R64). -/
  | storeToFlash (a : Nat)
  /-- SPM with bit 0 of the byte address `b` set (R71, spec/44_program_memory.md R326). -/
  | spmOddAddress (b : Nat)
  deriving DecidableEq, Repr

/-- The reasons a step has no meaning in the model. -/
inductive Refusal where
  /-- An instruction the model does not give a meaning yet. No arm of `exec` answers it. Safe. -/
  | notModelled (mnemonic : String)
  /-- Raised by stores and SPM where the effect is the device's own and in no source. Safe: nothing follows. -/
  | deviceDefined (what : DeviceUse)
  deriving DecidableEq, Repr

/-- What a step, a meaning or an operation of the machine answers. -/
abbrev Res (α : Type) := Host.Outcome α Fault Refusal

/-- The machine. Field by field: INVENTORY.md, "State". -/
structure State where
  /-- The implementation parameters (spec/00_scope.md R4); no step changes them (log 1). -/
  cfg : Config
  /-- x[0] to x[31] (spec/10_state.md R20). -/
  regs : Vector Byte 32
  /-- The program counter, a word address below 2^`PC_BITS` (R25). -/
  pc : BitVec 22
  /-- SREG: bits 7 down to 0 are I T H S V N Z C (R27). -/
  sreg : Byte
  /-- SP, below 2^`SP_BITS` (R31). -/
  sp : BitVec 16
  /-- RAMPX (R32). -/
  rampX : Byte
  /-- RAMPY (R32). -/
  rampY : Byte
  /-- RAMPZ (R32). -/
  rampZ : Byte
  /-- RAMPD (R34). -/
  rampD : Byte
  /-- EIND (R35). -/
  eind : Byte
  /-- Program memory by byte address (R38, spec/20_memory.md R61). -/
  flash : Memory
  /-- SRAM by data-space address (R39). -/
  sram : Memory
  /-- The plain-storage device locations of the I/O space, by I/O address (spec/20_memory.md R65). -/
  ioDev : Memory
  /-- The plain-storage locations of the Extended I/O memory, by data-space address (R66). -/
  extDev : Memory
  /-- The SPM temporary page buffer, by byte offset in the page (R44). -/
  pageBuf : Memory
  /-- The Boot Loader Lock bits, as the last lock-bit SPM wrote them (R37, spec/44_program_memory.md R328). -/
  bootLock : BitVec 16
  /-- The one-instruction interrupt hold-off (R42). -/
  inhibit : Bool
  /-- The run state (R43). -/
  run : RunState
  /-- The previously executed instruction was DES (R45). -/
  prevDes : Bool
  /-- `InterruptPending()`: the vector numbers pending and enabled (R46). -/
  pending : List Nat
  /-- `SleepEnabled()` (spec/46_mcu_control.md R392). -/
  sleepEnabled : Bool
  /-- The model's own: what the outside does before each coming step, next step first (log 15). -/
  inputs : List (List Input)
  /-- The model's own: how many free values have been drawn (log 9). -/
  free : Nat
  deriving DecidableEq, Repr

/-- The state a device `c` is in right after reset (spec/10_state.md R47, spec/70_reset_and_hazards.md R440). -/
def resetState (c : Config) : State where
  cfg := c
  regs := Vector.replicate 32 resetRegister
  pc := BitVec.ofNat 22 c.resetAddr
  sreg := 0#8
  sp := resetSp
  rampX := 0#8
  rampY := 0#8
  rampZ := 0#8
  rampD := 0#8
  eind := 0#8
  flash := []
  sram := []
  ioDev := []
  extDev := []
  pageBuf := []
  bootLock := resetBootLock
  inhibit := false
  run := .running
  prevDes := false
  pending := []
  sleepEnabled := resetSleepEnabled
  inputs := []
  free := 0

/-- The machine right after reset, on the reset device (log 2). -/
def State.reset : State := resetState resetDevice

end Sys2Proof.Machine
end

