-- ==== Sys2Proof/Machine/Ops.lean ====
section
/-! DEFINITION. The named operations over registers, memories, I/O, stack and Program memory (spec/00_scope.md R8, R9;
spec/20_memory.md R61 to R77), and taking an interrupt and returning from one (spec/60_exceptions.md R405, R409). -/
namespace Sys2Proof.Machine

/-- Do `r`, then `f` on what it answers; a fault or refusal of `r` ends both (spec/00_scope.md R10). -/
def Res.andThen {α β : Type} (r : Res α) (f : α → Res β) : Res β :=
  match r with
  | .next a => f a
  | .fault e => .fault e
  | .refused e => .refused e

/-! ### Registers -/

/-- x[d] (R8). -/
def State.reg (s : State) (d : Reg) : Byte := s.regs[d]

/-- x[d] <- v (R8). -/
def State.setReg (s : State) (d : Reg) (v : Byte) : State := { s with regs := s.regs.set d v }

/-- xw[d], the pair x[d+1]:x[d] (R8). -/
def State.pair (s : State) (d : Reg) : Word16 := s.reg (d + 1) ++ s.reg d

/-- xw[d] <- v: the low byte into x[d], then the high byte into x[d+1] (R8). -/
def State.setPair (s : State) (d : Reg) (v : Word16) : State :=
  (s.setReg d (v.setWidth 8)).setReg (d + 1) ((v >>> 8).setWidth 8)

/-- pc <- n mod 2^`PC_BITS` (spec/10_state.md R26). -/
def State.setPc (s : State) (n : Nat) : State := { s with pc := BitVec.ofNat 22 (n % 2 ^ s.cfg.pcBits) }

/-- pc <- pc + n (R26). -/
def State.advance (s : State) (n : Nat) : State := s.setPc (s.pc.toNat + n)

/-- SREG <- v, as the effect of an instruction that computes flags. -/
def State.setSreg (s : State) (v : Byte) : State := { s with sreg := v }

/-- `v` with bit `b` set to `on` (spec/45_bit_and_bit_test.md R352). -/
def withBit (v : Byte) (b : BitNum) (on : Bool) : Byte :=
  if on then v ||| 1#8 <<< b.val else v &&& ~~~(1#8 <<< b.val)

/-! ### Free values -/

/-- A byte the spec does not state, and the state that has drawn it (log 9). -/
def State.drawByte (s : State) : Byte × State := (Config.freeByte s.free, { s with free := s.free + 1 })

/-! ### Program memory -/

/-- `ProgWord(a)` (R61). A word the loaded program does not hold is out of range (R77, log 7). -/
def progWord (s : State) (a : Nat) : Res Word16 :=
  if a ≤ s.cfg.flashEnd then
    match s.flash.readWord a with
    | some w => .next w
    | none => .fault (.outOfRange .program a)
  else .fault (.outOfRange .program a)

/-- `ProgByte(b)` (R61): the even byte address is the low half of the word. -/
def progByte (s : State) (b : Nat) : Res Byte :=
  if b ≤ 2 * s.cfg.flashEnd + 1 then
    match s.flash.read b with
    | some v => .next v
    | none => .fault (.outOfRange .program b)
  else .fault (.outOfRange .program b)

/-! ### The I/O space -/

/-- What answers at an I/O address: a core register (spec/10_state.md R31, R33), or a device (R65). -/
inductive IoTarget where
  | sreg | spl | sph | rampX | rampY | rampZ | rampD | eind
  /-- A device location that is plain storage (R65). -/
  | storage
  /-- A device location with no device behind it (spec/93_implementation_defined.md U17). -/
  | device
  deriving DecidableEq, Repr

/-- `a` lies in one of the listed ranges, ends included. -/
def inSpans (spans : List (Nat × Nat)) (a : Nat) : Bool := spans.any (fun p => decide (p.1 ≤ a) && decide (a ≤ p.2))

/-- What answers at I/O address `a` (R33, R65). -/
def ioTarget (c : Config) (a : Fin 64) : IoTarget :=
  if a.val = c.sregIo then .sreg
  else if a.val = c.splIo then .spl
  else if c.spWidth = .sixteen ∧ a.val = c.sphIo then .sph
  else if c.hasRampX = true ∧ a.val = c.rampXIo then .rampX
  else if c.hasRampY = true ∧ a.val = c.rampYIo then .rampY
  else if c.hasRampZ = true ∧ a.val = c.rampZIo then .rampZ
  else if c.hasRampD = true ∧ a.val = c.rampDIo then .rampD
  else if c.hasEind = true ∧ a.val = c.eindIo then .eind
  else if inSpans c.ioStorage a.val then .storage
  else .device

/-- A write of all of SREG through its I/O or data address. When `SREG_WRITE_HOLDOFF` and I goes from 0 to 1 it also
holds interrupts off for one instruction (spec/60_exceptions.md R408). -/
def State.storeSreg (s : State) (v : Byte) : State :=
  { s with
    sreg := v
    inhibit := s.inhibit || (s.cfg.sregWriteHoldoff && !s.sreg.getLsbD 7 && v.getLsbD 7) }

/-- SPL <- v: bits 7:0 of SP (spec/10_state.md R31). -/
def State.storeSpl (s : State) (v : Byte) : State := { s with sp := (s.sp >>> 8).setWidth 8 ++ v }

/-- SPH <- v: bits 15:8 of SP (R31). -/
def State.storeSph (s : State) (v : Byte) : State := { s with sp := v ++ s.sp.setWidth 8 }

/-- A read of a plain-storage location: the byte last written, or a free value before any write (R65, log 8). -/
def storageRead (m : Memory) (a : Nat) (s : State) : Byte × State :=
  match m.read a with
  | some v => (v, s)
  | none => s.drawByte

/-- `IoRead(A)` (R65): the value, and the state after the read. -/
def ioRead (s : State) (a : Fin 64) : Byte × State :=
  match ioTarget s.cfg a with
  | .sreg => (s.sreg, s)
  | .spl => (s.sp.setWidth 8, s)
  | .sph => ((s.sp >>> 8).setWidth 8, s)
  | .rampX => (s.rampX, s)
  | .rampY => (s.rampY, s)
  | .rampZ => (s.rampZ, s)
  | .rampD => (s.rampD, s)
  | .eind => (s.eind, s)
  | .storage => storageRead s.ioDev a.val s
  | .device => s.drawByte

/-- `IoWrite(A, v)` (R65). A location with no device behind it takes a write without effect on the core (U17). -/
def ioWrite (s : State) (a : Fin 64) (v : Byte) : State :=
  match ioTarget s.cfg a with
  | .sreg => s.storeSreg v
  | .spl => s.storeSpl v
  | .sph => s.storeSph v
  | .rampX => { s with rampX := v }
  | .rampY => { s with rampY := v }
  | .rampZ => { s with rampZ := v }
  | .rampD => { s with rampD := v }
  | .eind => { s with eind := v }
  | .storage => { s with ioDev := s.ioDev.write a.val v }
  | .device => s

/-- `IoBitWrite(A, b, v)` (R65): bit `b` of a core register or of a plain-storage location becomes `on`, its other
bits keep their value; a location with no device behind it is unaffected as far as the core can tell (U17). -/
def ioBitWrite (s : State) (a : Fin 64) (b : BitNum) (on : Bool) : State :=
  match ioTarget s.cfg a with
  | .device => s
  | _ =>
    let r := ioRead s a
    ioWrite r.2 a (withBit r.1 b on)

/-! ### The data space -/

/-- Where a data-space address leads (R64). -/
inductive DataPlace where
  | register (d : Reg)
  | io (a : Fin 64)
  | extIo
  /-- The window onto Program memory, with the Program memory byte address. -/
  | flash (b : Nat)
  | sram
  | nowhere
  deriving DecidableEq, Repr

/-- The dispatch of R64: the ranges are tested in this order. -/
def dataPlace (c : Config) (a : Nat) : DataPlace :=
  if c.regfileInData = true ∧ a ≤ 31 then .register (Fin.ofNat 32 a)
  else if c.ioBase ≤ a ∧ a ≤ c.ioBase + 63 then .io (Fin.ofNat 64 (a - c.ioBase))
  else if c.extIoFirst ≤ a ∧ a ≤ c.extIoLast then .extIo
  else
    match c.flashDataBase with
    | some f =>
      if f ≤ a ∧ a ≤ f + 2 * c.flashEnd + 1 then .flash (a - f)
      else if c.sramStart ≤ a ∧ a ≤ c.ramEnd then .sram
      else .nowhere
    | none => if c.sramStart ≤ a ∧ a ≤ c.ramEnd then .sram else .nowhere

/-- `DevRead(a)` of the Extended I/O memory (R64, R66). -/
def extRead (s : State) (a : Nat) : Byte × State :=
  if inSpans s.cfg.extStorage a then storageRead s.extDev a s else s.drawByte

/-- `DevWrite(a, v)` of the Extended I/O memory (R64, R66). -/
def extWrite (s : State) (a : Nat) (v : Byte) : State :=
  if inSpans s.cfg.extStorage a then { s with extDev := s.extDev.write a v } else s

/-- `MemRead(a, 1)` (R64): the byte, and the state after the read. An SRAM byte that holds no value is a fault
(spec/70_reset_and_hazards.md R441). -/
def memRead (s : State) (a : Nat) : Res (Byte × State) :=
  match dataPlace s.cfg a with
  | .register d => .next (s.reg d, s)
  | .io i => .next (ioRead s i)
  | .extIo => .next (extRead s a)
  | .flash b => (progByte s b).andThen fun v => .next (v, s)
  | .sram =>
    match s.sram.read a with
    | some v => .next (v, s)
    | none => .fault (.unwritten a)
  | .nowhere => .fault (.outOfRange .data a)

/-- `MemWrite(a, 1, v)` (R64). -/
def memWrite (s : State) (a : Nat) (v : Byte) : Res State :=
  match dataPlace s.cfg a with
  | .register d => .next (s.setReg d v)
  | .io i => .next (ioWrite s i v)
  | .extIo => .next (extWrite s a v)
  | .flash _ => .refused (.deviceDefined (.storeToFlash a))
  | .sram => .next { s with sram := s.sram.write a v }
  | .nowhere => .fault (.outOfRange .data a)

/-- The byte the I/O space holds at `a`, where the state determines it: a core register, or a plain-storage location
that has been written. -/
def peekIo (s : State) (a : Fin 64) : Option Byte :=
  match ioTarget s.cfg a with
  | .sreg => some s.sreg
  | .spl => some (s.sp.setWidth 8)
  | .sph => some ((s.sp >>> 8).setWidth 8)
  | .rampX => some s.rampX
  | .rampY => some s.rampY
  | .rampZ => some s.rampZ
  | .rampD => some s.rampD
  | .eind => some s.eind
  | .storage => s.ioDev.read a.val
  | .device => none

/-- The byte the data space holds at `a`, where the state determines it: what `memRead` answers without a free value,
a fault or a refusal. This is the model's read of one byte for frames. -/
def peek (s : State) (a : Nat) : Option Byte :=
  match dataPlace s.cfg a with
  | .register d => some (s.reg d)
  | .io i => peekIo s i
  | .extIo => if inSpans s.cfg.extStorage a then s.extDev.read a else none
  | .flash b => if b ≤ 2 * s.cfg.flashEnd + 1 then s.flash.read b else none
  | .sram => s.sram.read a
  | .nowhere => none

/-! ### The stack -/

/-- SP - 1 modulo 2^`SP_BITS` (spec/10_state.md R31). -/
def spDown (c : Config) (sp : BitVec 16) : BitVec 16 := BitVec.ofNat 16 ((sp.toNat + (c.spModulus - 1)) % c.spModulus)

/-- SP + 1 modulo 2^`SP_BITS` (R31). -/
def spUp (c : Config) (sp : BitVec 16) : BitVec 16 := BitVec.ofNat 16 ((sp.toNat + 1) % c.spModulus)

/-- `Push(v)`: MemWrite(SP, 1, v), then SP <- SP - 1 (R75). -/
def push (s : State) (v : Byte) : Res State :=
  (memWrite s s.sp.toNat v).andThen fun s1 => .next { s1 with sp := spDown s1.cfg s1.sp }

/-- `Pop()`: SP <- SP + 1, then MemRead(SP, 1) (R75). -/
def pop (s : State) : Res (Byte × State) :=
  memRead { s with sp := spUp s.cfg s.sp } (spUp s.cfg s.sp).toNat

/-- Byte `i` of a return address: byte 0 is a[7:0]. Bits above `PC_BITS` - 1 are taken as 0 (R76). -/
def returnByte (c : Config) (a i : Nat) : Byte := BitVec.ofNat 8 (a % 2 ^ c.pcBits / 256 ^ i)

/-- `PushPC(a)`: low byte, middle byte, and with three `PC_BYTES` the top byte (R76). -/
def pushPc (s : State) (a : Nat) : Res State :=
  (push s (returnByte s.cfg a 0)).andThen fun s1 =>
  (push s1 (returnByte s.cfg a 1)).andThen fun s2 =>
    if s.cfg.pcBytes = 3 then push s2 (returnByte s.cfg a 2) else .next s2

/-- `PopPC()`: with three `PC_BYTES` the top byte, then the middle byte, then the low byte (R76). -/
def popPc (s : State) : Res (Nat × State) :=
  (if s.cfg.pcBytes = 3 then pop s else .next (0#8, s)).andThen fun hi =>
  (pop hi.2).andThen fun mid =>
  (pop mid.2).andThen fun lo =>
    .next ((hi.1.toNat * 65536 + mid.1.toNat * 256 + lo.1.toNat) % 2 ^ s.cfg.pcBits, lo.2)

/-! ### Interrupts -/

/-- SREG.I <- 1 and inhibit <- 1, as SEI and RETI do (spec/60_exceptions.md R407, R409). -/
def State.enableInterrupts (s : State) : State := { s with sreg := withBit s.sreg 7 true, inhibit := true }

/-- `InterruptAck(n)`: the device drops the request it has had served, where it clears it by itself (R404, log 14). -/
def State.acknowledge (s : State) (v : VectorEntry) : State :=
  if v.autoClear then { s with pending := s.pending.filter (fun n => n ≠ v.num) } else s

/-- The request to serve: the first entry of `VECTORS` whose number is pending (R405, R406). -/
def State.nextRequest (s : State) : Option VectorEntry := s.cfg.vectors.find? (fun v => s.pending.contains v.num)

/-- The interrupt to take instead of an instruction, if one is to be taken (R405). -/
def State.dueInterrupt (s : State) : Option VectorEntry :=
  if s.run ≠ .stopped ∧ s.sreg.getLsbD 7 = true ∧ s.inhibit = false then s.nextRequest else none

/-- The entry sequence of R405: the core runs, the pc is pushed, I is cleared, the pc becomes the vector's address and
the request is acknowledged. -/
def takeInterrupt (s : State) (v : VectorEntry) : Res State :=
  (pushPc { s with run := .running } s.pc.toNat).andThen fun s1 =>
    .next (((s1.setSreg (withBit s1.sreg 7 false)).setPc v.addr).acknowledge v)

/-- The return of RETI: pc <- PopPC(), SREG.I <- 1, inhibit <- 1 (spec/42_branch.md R211, R409). -/
def returnFromInterrupt (s : State) : Res State :=
  (popPc s).andThen fun p => .next ((p.2.setPc p.1).enableInterrupts)

/-! ### Self-programming -/

/-- The first word of the SPM page that holds byte address `b` (log 10). -/
def spmPage (c : Config) (b : Nat) : Nat := b / 2 / c.spmPageWords * c.spmPageWords

/-- How many words of that page the Program memory has (log 10). -/
def spmPageLen (c : Config) (b : Nat) : Nat := min c.spmPageWords (c.flashEnd + 1 - spmPage c b)

/-- Every word of the page that holds byte address `b` reads 0xFFFF (spec/44_program_memory.md R328). -/
def spmPageErased (s : State) (b : Nat) : Bool :=
  (List.range (spmPageLen s.cfg b)).all fun i => s.flash.readWord (spmPage s.cfg b + i) == some 0xFFFF#16

/-- The `i`-th word a page write puts down: the buffer's, where the page was erased and the word filled; otherwise a
free value (R328, log 10). -/
def spmPageWord (s : State) (b i : Nat) : Word16 :=
  if spmPageErased s b then (s.pageBuf.readWord i).getD (Config.freeWord s.free i) else Config.freeWord s.free i

/-- The byte address an SPM acts on in Program memory: `b`, or some address the device has where `b` is above it. The
spec states no effect of such an SPM and no outcome (R401), so the address is a free value (log 10). -/
def spmTarget (s : State) (b : Nat) : Nat :=
  if b / 2 ≤ s.cfg.flashEnd then b else 2 * (Config.freeAddress s.free % (s.cfg.flashEnd + 1))

/-- Program memory after one SPM operation: the table of R328. -/
def spmFlash (s : State) (op : SpmOp) (b : Nat) (data : Word16) : Memory :=
  let p := spmTarget s b
  match op with
  | .pageErase => s.flash.writeWords (spmPage s.cfg p) (fun _ => 0xFFFF#16) (spmPageLen s.cfg p)
  | .wordWrite => s.flash.writeWord (p / 2) data
  | .bufferFill => s.flash
  | .pageWrite => s.flash.writeWords (spmPage s.cfg p) (spmPageWord s p) (spmPageLen s.cfg p)
  | .lockBits => s.flash
  | .noOperation => s.flash

/-- The temporary page buffer after one SPM operation (R328). Its words hold no known value after an erase or a page
write: when it is cleared is in no source (spec/10_state.md R44, log 10). -/
def spmBuffer (s : State) (op : SpmOp) (b : Nat) (data : Word16) : Memory :=
  match op with
  | .pageErase => []
  | .wordWrite => s.pageBuf
  | .bufferFill => s.pageBuf.writeWord (b / 2 % s.cfg.spmPageWords) data
  | .pageWrite => []
  | .lockBits => s.pageBuf
  | .noOperation => s.pageBuf

/-- The effect of one SPM operation: Program memory, the page buffer and the lock bits may change, and nothing else
(R328). -/
def spmEffect (s : State) (op : SpmOp) (b : Nat) (data : Word16) : State :=
  { s with
    flash := spmFlash s op b data
    pageBuf := spmBuffer s op b data
    bootLock := if op = .lockBits then data else s.bootLock
    free := s.free + 1 }

/-- One SPM at byte address `b` with the data word `data` (R326): refused with bit 0 of the address set (R71); else the
operation that device state no source describes has selected, a free value (R328, U23). What SPM does outside the boot space is
not in the source: the model looks at no pc here, and the free value may be any operation or none (DESIGN CHOICE, log 10). -/
def spmAt (s : State) (b : Nat) (data : Word16) : Res State :=
  if b % 2 = 1 then .refused (.deviceDefined (.spmOddAddress b))
  else .next (spmEffect s (Config.spmSelect s.free) b data)

end Sys2Proof.Machine
end

