-- ==== Sys2Proof/Machine/Flags.lean ====
section
/-! DEFINITION. SREG and every flag computation of the spec: R27 (the bits), R140 to R142 (add, subtract, logic), R145
and R150 (words), R157, R160, R161 (NEG, INC, DEC), R180 (multiply), R340, R341 (shifts). Each takes the old SREG and
gives the new one; a flag a rule does not list keeps its value (R28). -/
namespace Sys2Proof.Machine

/-- The flags of SREG (R27). -/
inductive Flag where
  | c | z | n | v | s | h | t | i
  deriving DecidableEq, Repr

/-- The SREG bit number of a flag (R27). -/
def Flag.bit : Flag → BitNum
  | .c => 0
  | .z => 1
  | .n => 2
  | .v => 3
  | .s => 4
  | .h => 5
  | .t => 6
  | .i => 7

/-- A flag of an SREG value. -/
def flagOf (sreg : Byte) (f : Flag) : Bool := sreg.getLsbD f.bit.val

/-- SREG.f (R8). -/
def State.flag (s : State) (f : Flag) : Bool := flagOf s.sreg f

/-- The SREG value with the given bits, I first (R27). -/
def packFlags (i t h s v n z c : Bool) : Byte :=
  BitVec.ofBool i ++ BitVec.ofBool t ++ BitVec.ofBool h ++ BitVec.ofBool s
    ++ BitVec.ofBool v ++ BitVec.ofBool n ++ BitVec.ofBool z ++ BitVec.ofBool c

/-- H, V, N, Z, C as given and S = N ⊕ V; I and T kept. -/
def setHSVNZC (old : Byte) (h v n z c : Bool) : Byte :=
  packFlags (flagOf old .i) (flagOf old .t) h (n ^^ v) v n z c

/-- V, N, Z, C as given and S = N ⊕ V; I, T and H kept. -/
def setSVNZC (old : Byte) (v n z c : Bool) : Byte := setHSVNZC old (flagOf old .h) v n z c

/-- V, N, Z as given and S = N ⊕ V; I, T, H and C kept. -/
def setSVNZ (old : Byte) (v n z : Bool) : Byte := setSVNZC old v n z (flagOf old .c)

/-- Z and C as given; the other six kept. -/
def setZC (old : Byte) (z c : Bool) : Byte :=
  packFlags (flagOf old .i) (flagOf old .t) (flagOf old .h) (flagOf old .s) (flagOf old .v) (flagOf old .n) z c

/-- A carry out of bit `k` of a sum `r` of `a` and `b` (R140, the formula of H and C). -/
def carryAt (a b r : Byte) (k : Nat) : Bool :=
  (a.getLsbD k && b.getLsbD k) || (b.getLsbD k && !r.getLsbD k) || (!r.getLsbD k && a.getLsbD k)

/-- A borrow into bit `k` + 1 of a difference `r` of `a` and `b` (R141, the formula of H and C). -/
def borrowAt (a b r : Byte) (k : Nat) : Bool :=
  (!a.getLsbD k && b.getLsbD k) || (b.getLsbD k && r.getLsbD k) || (r.getLsbD k && !a.getLsbD k)

/-- `AddFlags(a, b, r)` (R140). -/
def addFlags (old a b r : Byte) : Byte :=
  setHSVNZC old (carryAt a b r 3)
    ((a.getLsbD 7 && b.getLsbD 7 && !r.getLsbD 7) || (!a.getLsbD 7 && !b.getLsbD 7 && r.getLsbD 7))
    (r.getLsbD 7) (r == 0#8) (carryAt a b r 7)

/-- `SubFlags(a, b, r, keepZ)` (R141). -/
def subFlags (old a b r : Byte) (keepZ : Bool) : Byte :=
  setHSVNZC old (borrowAt a b r 3)
    ((a.getLsbD 7 && !b.getLsbD 7 && !r.getLsbD 7) || (!a.getLsbD 7 && b.getLsbD 7 && r.getLsbD 7))
    (r.getLsbD 7) (r == 0#8 && (!keepZ || flagOf old .z)) (borrowAt a b r 7)

/-- `LogicFlags(r)` (R142). -/
def logicFlags (old r : Byte) : Byte := setSVNZ old false (r.getLsbD 7) (r == 0#8)

/-- The flags of COM: `LogicFlags(r)` and C ← 1 (R156). -/
def comFlags (old r : Byte) : Byte := setSVNZC old false (r.getLsbD 7) (r == 0#8) true

/-- The flags of NEG on `a` with result `r` (R157). -/
def negFlags (old a r : Byte) : Byte :=
  setHSVNZC old (r.getLsbD 3 || a.getLsbD 3) (r == 0x80#8) (r.getLsbD 7) (r == 0#8) (r != 0#8)

/-- The flags of INC (R160). -/
def incFlags (old r : Byte) : Byte := setSVNZ old (r == 0x80#8) (r.getLsbD 7) (r == 0#8)

/-- The flags of DEC (R161). -/
def decFlags (old r : Byte) : Byte := setSVNZ old (r == 0x7F#8) (r.getLsbD 7) (r == 0#8)

/-- The flags of CLR: S, V, N ← 0 and Z ← 1 (R163). -/
def clrFlags (old : Byte) : Byte := setSVNZ old false false true

/-- The flags of ADIW on `a` with result `r` (R145). -/
def adiwFlags (old : Byte) (a r : Word16) : Byte :=
  setSVNZC old (!a.getLsbD 15 && r.getLsbD 15) (r.getLsbD 15) (r == 0#16) (!r.getLsbD 15 && a.getLsbD 15)

/-- The flags of SBIW on `a` with result `r` (R150). -/
def sbiwFlags (old : Byte) (a r : Word16) : Byte :=
  setSVNZC old (a.getLsbD 15 && !r.getLsbD 15) (r.getLsbD 15) (r == 0#16) (r.getLsbD 15 && !a.getLsbD 15)

/-- `MulFlags(p, res)` (R180): C is bit 15 of the product before any shift, Z is of what is written. -/
def mulFlags (old : Byte) (p res : Word16) : Byte := setZC old (res == 0#16) (p.getLsbD 15)

/-- `ShiftRightFlags(a, r)` (R340). -/
def shiftRightFlags (old a r : Byte) : Byte :=
  setSVNZC old (r.getLsbD 7 ^^ a.getLsbD 0) (r.getLsbD 7) (r == 0#8) (a.getLsbD 0)

/-- The flags of LSL and ROL on `a` with result `r` (R341, R343). -/
def shiftLeftFlags (old a r : Byte) : Byte :=
  setHSVNZC old (a.getLsbD 3) (r.getLsbD 7 ^^ a.getLsbD 7) (r.getLsbD 7) (r == 0#8) (a.getLsbD 7)

end Sys2Proof.Machine
end

