-- ==== Sys2Proof/Machine/Operands.lean ====
section
/-! DEFINITION. Every operand form: the pointer registers as addresses (spec/20_memory.md R73), the addressing modes
(R74, spec/43_data_transfer.md R251), the targets of jumps and skips (spec/42_branch.md R200, R201), and the loads and
stores over them. -/
namespace Sys2Proof.Machine

/-! ### Pointers -/

/-- The low register of a pointer pair: R26, R28 or R30 (R73). -/
def Ptr.lo : Ptr → Reg
  | .x => 26
  | .y => 28
  | .z => 30

/-- `d` is one of the pointer's own two registers (R252). -/
def Ptr.owns (p : Ptr) (d : Reg) : Bool := d == p.lo || d == p.lo + 1

/-- The device has the RAMP register of the pointer (R73). -/
def hasRampOf (c : Config) : Ptr → Bool
  | .x => c.hasRampX
  | .y => c.hasRampY
  | .z => c.hasRampZ

/-- RAMPX, RAMPY or RAMPZ (R73). -/
def State.ramp (s : State) : Ptr → Byte
  | .x => s.rampX
  | .y => s.rampY
  | .z => s.rampZ

/-- RAMPP <- v (R73). -/
def State.setRamp (s : State) (p : Ptr) (v : Byte) : State :=
  match p with
  | .x => { s with rampX := v }
  | .y => { s with rampY := v }
  | .z => { s with rampZ := v }

/-- The pointer's value and update take in the RAMP register: `extended` with RAMPP (R73). -/
def usesRamp (c : Config) (p : Ptr) : Bool := c.ptrClass == .extended && hasRampOf c p

/-- The width W of a pointer in bits: 8, 16 or 24 (R73). -/
def ptrWidth (c : Config) (p : Ptr) : Nat :=
  if c.ptrClass = .small then 8 else if usesRamp c p then 24 else 16

/-- `PtrGet(P)` (R73). -/
def ptrGet (s : State) (p : Ptr) : Nat :=
  if s.cfg.ptrClass = .small then (s.reg p.lo).toNat
  else if usesRamp s.cfg p then (s.ramp p).toNat * 65536 + (s.pair p.lo).toNat
  else (s.pair p.lo).toNat

/-- `PtrSet(P, v)` (R73). -/
def ptrSet (s : State) (p : Ptr) (v : Nat) : State :=
  if s.cfg.ptrClass = .small then s.setReg p.lo (BitVec.ofNat 8 v)
  else if usesRamp s.cfg p then (s.setRamp p (BitVec.ofNat 8 (v / 65536))).setPair p.lo (BitVec.ofNat 16 v)
  else s.setPair p.lo (BitVec.ofNat 16 v)

/-! ### Effective addresses -/

/-- (a + 1) mod 2^W, the pointer after a post-increment (R251). -/
def ptrUp (c : Config) (p : Ptr) (a : Nat) : Nat := (a + 1) % 2 ^ ptrWidth c p

/-- (PtrGet(P) - 1) mod 2^W, the address of a pre-decrement (R251). -/
def ptrDown (s : State) (p : Ptr) : Nat := (ptrGet s p + (2 ^ ptrWidth s.cfg p - 1)) % 2 ^ ptrWidth s.cfg p

/-- (PtrGet(P) + q) mod 2^W, the address of a displacement (R251). -/
def ptrDisp (s : State) (p : Ptr) (q : Fin 64) : Nat := (ptrGet s p + q.val) % 2 ^ ptrWidth s.cfg p

/-- The address of the two-word LDS and STS: RAMPD : k with RAMPD, else k (spec/43_data_transfer.md R263). -/
def directAddr (s : State) (k : BitVec 16) : Nat :=
  if s.cfg.hasRampD then s.rampD.toNat * 65536 + k.toNat else k.toNat

/-- The address of the 16-bit LDS and STS, bits 7 down to 0: NOT k4, k4, k6, k5, k3, k2, k1, k0 (R264). -/
def shortAddr (k : BitVec 7) : Nat :=
  (BitVec.ofBool (!k.getLsbD 4) ++ BitVec.ofBool (k.getLsbD 4) ++ BitVec.ofBool (k.getLsbD 6)
    ++ BitVec.ofBool (k.getLsbD 5) ++ k.extractLsb' 0 4 : BitVec 8).toNat

/-- Z as a Program memory byte address, always the full pair (spec/44_program_memory.md R320). -/
def lpmAddr (s : State) : Nat := (s.pair 30).toNat

/-- RAMPZ : Z as a Program memory byte address (R323). -/
def elpmAddr (s : State) : Nat := s.rampZ.toNat * 65536 + (s.pair 30).toNat

/-- The byte address of SPM: RAMPZ : Z with RAMPZ, else Z (R326). -/
def spmAddr (s : State) : Nat := if s.cfg.hasRampZ then elpmAddr s else lpmAddr s

/-! ### Program counter targets -/

/-- `RelTarget(k)`: (pc + k + 1) mod 2^`PC_BITS` for a signed word offset k (spec/42_branch.md R201). -/
def relTarget (s : State) (k : Int) : Nat := (((s.pc.toNat : Int) + k + 1) % ((2 ^ s.cfg.pcBits : Nat) : Int)).toNat

/-- pc <- RelTarget(k) (R201). -/
def State.jumpRel (s : State) (k : Int) : State := s.setPc (relTarget s k)

/-- The target of IJMP and ICALL: Z, upper bits zero (R203). -/
def indirectTarget (s : State) : Nat := (s.pair 30).toNat

/-- The target of EIJMP and EICALL: EIND[5:0] : Z (R204). -/
def extendedTarget (s : State) : Nat := s.eind.toNat % 64 * 65536 + (s.pair 30).toNat

/-- `SkipLen()`: 2 when the word after the instruction is the first of a two-word instruction, else 1 (R200). -/
def skipLen (s : State) : Res Nat :=
  (progWord s (s.pc.toNat + 1)).andThen fun w => .next (if isTwoWord w then 2 else 1)

/-- The end of a skip instruction: past the next instruction when `cond`, else to it. `SkipLen()` is evaluated only when
the skip is taken (R200). -/
def skipIf (s : State) (cond : Bool) : Res State :=
  if cond then (skipLen s).andThen fun n => .next (s.advance (1 + n)) else .next (s.advance 1)

/-- The end of a conditional branch: to RelTarget(k) when `cond`, else to the next word (R220). -/
def branchIf (s : State) (cond : Bool) (k : BitVec 7) : State :=
  if cond then s.jumpRel k.toInt else s.advance 1

/-! ### Results -/

/-- x[d] <- res, SREG <- sreg, pc <- pc + 1: the end of every one-word computation on a register. -/
def State.finish (s : State) (d : Reg) (res sreg : Byte) : State := ((s.setReg d res).setSreg sreg).advance 1

/-- xw[d] <- res, SREG <- sreg, pc <- pc + 1: the end of every one-word computation on a pair. -/
def State.finishPair (s : State) (d : Reg) (res : Word16) (sreg : Byte) : State :=
  ((s.setPair d res).setSreg sreg).advance 1

/-- SREG.C as a byte, the carry or borrow into an operation (R144, R148). -/
def State.carryByte (s : State) : Byte := (BitVec.ofBool (s.flag .c)).setWidth 8

/-- The I/O location of a bit instruction, one of the lower 32 (R111). -/
def lowIo (a : Fin 32) : Fin 64 := a.castLE (by omega)

/-! ### Loads and stores -/

/-- x[d] <- MemRead(a, 1), then pc <- pc + n. -/
def loadFrom (s : State) (d : Reg) (a n : Nat) : Res State :=
  (memRead s a).andThen fun p => .next ((p.2.setReg d p.1).advance n)

/-- MemWrite(a, 1, v), then pc <- pc + n. -/
def storeTo (s : State) (a : Nat) (v : Byte) (n : Nat) : Res State :=
  (memWrite s a v).andThen fun s1 => .next (s1.advance n)

/-- LD Rd,P+ (R251), undefined when Rd is half of P (R252). -/
def loadPostInc (s : State) (p : Ptr) (d : Reg) : Res State :=
  if p.owns d then .fault (.undefinedUse (.pointerLoad p d))
  else
    (memRead s (ptrGet s p)).andThen fun r =>
      .next ((ptrSet (r.2.setReg d r.1) p (ptrUp s.cfg p (ptrGet s p))).advance 1)

/-- LD Rd,-P (R251), undefined when Rd is half of P (R252). -/
def loadPreDec (s : State) (p : Ptr) (d : Reg) : Res State :=
  if p.owns d then .fault (.undefinedUse (.pointerLoad p d))
  else loadFrom (ptrSet s p (ptrDown s p)) d (ptrDown s p) 1

/-- The store's address is the data-space address of one of the pointer's own two registers (spec/20_memory.md R67). -/
def ontoPointer (c : Config) (p : Ptr) (a : Nat) : Bool :=
  c.regfileInData && (decide (a = p.lo.val) || decide (a = p.lo.val + 1))

/-- ST P+,Rr (R251), undefined when Rr is half of P (R252) or when the store lands on P (R67). -/
def storePostInc (s : State) (p : Ptr) (r : Reg) : Res State :=
  if p.owns r then .fault (.undefinedUse (.pointerStore p r))
  else if ontoPointer s.cfg p (ptrGet s p) then .fault (.undefinedUse (.storeOntoPointer p (ptrGet s p)))
  else
    (memWrite s (ptrGet s p) (s.reg r)).andThen fun s1 =>
      .next ((ptrSet s1 p (ptrUp s.cfg p (ptrGet s p))).advance 1)

/-- ST -P,Rr (R251), undefined when Rr is half of P (R252) or when the store lands on P (R67). -/
def storePreDec (s : State) (p : Ptr) (r : Reg) : Res State :=
  if p.owns r then .fault (.undefinedUse (.pointerStore p r))
  else if ontoPointer s.cfg p (ptrDown s p) then .fault (.undefinedUse (.storeOntoPointer p (ptrDown s p)))
  else storeTo (ptrSet s p (ptrDown s p)) (ptrDown s p) (s.reg r) 1

end Sys2Proof.Machine
end

