-- ==== Sys2Proof/Machine/Arithmetic.lean ====
section
/-! DEFINITION. The arithmetic and logic instructions (spec/40_arithmetic_logic.md R143 to R164). -/
namespace Sys2Proof.Machine

/-- ADD (R143). -/
def execAdd (d r : Reg) (s : State) : Res State :=
  let res := s.reg d + s.reg r
  .next (s.finish d res (addFlags s.sreg (s.reg d) (s.reg r) res))

/-- ADC (R144). -/
def execAdc (d r : Reg) (s : State) : Res State :=
  let res := s.reg d + s.reg r + s.carryByte
  .next (s.finish d res (addFlags s.sreg (s.reg d) (s.reg r) res))

/-- ADIW (R145). -/
def execAdiw (d : Reg) (k : Fin 64) (s : State) : Res State :=
  let res := s.pair d + BitVec.ofNat 16 k.val
  .next (s.finishPair d res (adiwFlags s.sreg (s.pair d) res))

/-- SUB (R146). -/
def execSub (d r : Reg) (s : State) : Res State :=
  let res := s.reg d - s.reg r
  .next (s.finish d res (subFlags s.sreg (s.reg d) (s.reg r) res false))

/-- SUBI (R147). -/
def execSubi (d : Reg) (k : BitVec 8) (s : State) : Res State :=
  let res := s.reg d - k
  .next (s.finish d res (subFlags s.sreg (s.reg d) k res false))

/-- SBC (R148). -/
def execSbc (d r : Reg) (s : State) : Res State :=
  let res := s.reg d - s.reg r - s.carryByte
  .next (s.finish d res (subFlags s.sreg (s.reg d) (s.reg r) res true))

/-- SBCI (R149). -/
def execSbci (d : Reg) (k : BitVec 8) (s : State) : Res State :=
  let res := s.reg d - k - s.carryByte
  .next (s.finish d res (subFlags s.sreg (s.reg d) k res true))

/-- SBIW (R150). -/
def execSbiw (d : Reg) (k : Fin 64) (s : State) : Res State :=
  let res := s.pair d - BitVec.ofNat 16 k.val
  .next (s.finishPair d res (sbiwFlags s.sreg (s.pair d) res))

/-- x[d] <- res with `LogicFlags(res)`, the common end of the logic instructions (R151 to R155, R158, R159, R162). -/
def logicResult (s : State) (d : Reg) (res : Byte) : Res State := .next (s.finish d res (logicFlags s.sreg res))

/-- AND (R151). -/
def execAnd (d r : Reg) (s : State) : Res State := logicResult s d (s.reg d &&& s.reg r)

/-- ANDI (R152). -/
def execAndi (d : Reg) (k : BitVec 8) (s : State) : Res State := logicResult s d (s.reg d &&& k)

/-- OR (R153). -/
def execOr (d r : Reg) (s : State) : Res State := logicResult s d (s.reg d ||| s.reg r)

/-- ORI (R154). -/
def execOri (d : Reg) (k : BitVec 8) (s : State) : Res State := logicResult s d (s.reg d ||| k)

/-- EOR (R155). -/
def execEor (d r : Reg) (s : State) : Res State := logicResult s d (s.reg d ^^^ s.reg r)

/-- SBR (R158). -/
def execSbr (d : Reg) (k : BitVec 8) (s : State) : Res State := logicResult s d (s.reg d ||| k)

/-- CBR: the bits of `k` are cleared (R159). -/
def execCbr (d : Reg) (k : BitVec 8) (s : State) : Res State := logicResult s d (s.reg d &&& (0xFF#8 - k))

/-- TST (R162). -/
def execTst (d : Reg) (s : State) : Res State := logicResult s d (s.reg d &&& s.reg d)

/-- COM (R156). -/
def execCom (d : Reg) (s : State) : Res State :=
  let res := 0xFF#8 - s.reg d
  .next (s.finish d res (comFlags s.sreg res))

/-- NEG (R157). -/
def execNeg (d : Reg) (s : State) : Res State :=
  let res := 0#8 - s.reg d
  .next (s.finish d res (negFlags s.sreg (s.reg d) res))

/-- INC (R160). -/
def execInc (d : Reg) (s : State) : Res State :=
  let res := s.reg d + 1#8
  .next (s.finish d res (incFlags s.sreg res))

/-- DEC (R161). -/
def execDec (d : Reg) (s : State) : Res State :=
  let res := s.reg d - 1#8
  .next (s.finish d res (decFlags s.sreg res))

/-- CLR (R163). -/
def execClr (d : Reg) (s : State) : Res State := .next (s.finish d 0#8 (clrFlags s.sreg))

/-- SER (R164). -/
def execSer (d : Reg) (s : State) : Res State := .next (s.finish d 0xFF#8 s.sreg)

end Sys2Proof.Machine
end

