-- ==== Sys2Proof/Machine/BitOps.lean ====
section
/-! DEFINITION. The shifts, the SREG, I/O and T bit instructions (spec/45_bit_and_bit_test.md R341 to R368). -/
namespace Sys2Proof.Machine

/-- LSL (R341). -/
def execLsl (d : Reg) (s : State) : Res State :=
  let res := s.reg d <<< 1
  .next (s.finish d res (shiftLeftFlags s.sreg (s.reg d) res))

/-- LSR (R342). -/
def execLsr (d : Reg) (s : State) : Res State :=
  let res := s.reg d >>> 1
  .next (s.finish d res (shiftRightFlags s.sreg (s.reg d) res))

/-- ROL (R343). -/
def execRol (d : Reg) (s : State) : Res State :=
  let res := s.reg d <<< 1 ||| s.carryByte
  .next (s.finish d res (shiftLeftFlags s.sreg (s.reg d) res))

/-- ROR (R344). -/
def execRor (d : Reg) (s : State) : Res State :=
  let res := s.reg d >>> 1 ||| s.carryByte <<< 7
  .next (s.finish d res (shiftRightFlags s.sreg (s.reg d) res))

/-- ASR (R345). -/
def execAsr (d : Reg) (s : State) : Res State :=
  let res := s.reg d >>> 1 ||| s.reg d &&& 0x80#8
  .next (s.finish d res (shiftRightFlags s.sreg (s.reg d) res))

/-- SWAP (R346). -/
def execSwap (d : Reg) (s : State) : Res State :=
  .next (s.finish d (s.reg d <<< 4 ||| s.reg d >>> 4) s.sreg)

/-- SREG bit `b` <- `on`; setting I also holds interrupts off for one instruction (R347, R348, R359). -/
def flagWrite (s : State) (b : BitNum) (on : Bool) : Res State :=
  if b = 7 ∧ on = true then .next (s.enableInterrupts.advance 1)
  else .next ((s.setSreg (withBit s.sreg b on)).advance 1)

/-- BSET (R347). -/
def execBset (b : BitNum) (s : State) : Res State := flagWrite s b true

/-- BCLR (R348). -/
def execBclr (b : BitNum) (s : State) : Res State := flagWrite s b false

/-- SBI (R349). -/
def execSbi (a : Fin 32) (b : BitNum) (s : State) : Res State := .next ((ioBitWrite s (lowIo a) b true).advance 1)

/-- CBI (R350). -/
def execCbi (a : Fin 32) (b : BitNum) (s : State) : Res State := .next ((ioBitWrite s (lowIo a) b false).advance 1)

/-- BST (R351). -/
def execBst (d : Reg) (b : BitNum) (s : State) : Res State :=
  .next ((s.setSreg (withBit s.sreg 6 ((s.reg d).getLsbD b.val))).advance 1)

/-- BLD (R352). -/
def execBld (d : Reg) (b : BitNum) (s : State) : Res State :=
  .next (s.finish d (withBit (s.reg d) b (s.flag .t)) s.sreg)

/-- SEC (R353). -/
def execSec (s : State) : Res State := flagWrite s (Flag.bit .c) true

/-- CLC (R354). -/
def execClc (s : State) : Res State := flagWrite s (Flag.bit .c) false

/-- SEN (R355). -/
def execSen (s : State) : Res State := flagWrite s (Flag.bit .n) true

/-- CLN (R356). -/
def execCln (s : State) : Res State := flagWrite s (Flag.bit .n) false

/-- SEZ (R357). -/
def execSez (s : State) : Res State := flagWrite s (Flag.bit .z) true

/-- CLZ (R358). -/
def execClz (s : State) : Res State := flagWrite s (Flag.bit .z) false

/-- SEI (R359). -/
def execSei (s : State) : Res State := flagWrite s (Flag.bit .i) true

/-- CLI (R360). -/
def execCli (s : State) : Res State := flagWrite s (Flag.bit .i) false

/-- SES (R361). -/
def execSes (s : State) : Res State := flagWrite s (Flag.bit .s) true

/-- CLS (R362). -/
def execCls (s : State) : Res State := flagWrite s (Flag.bit .s) false

/-- SEV (R363). -/
def execSev (s : State) : Res State := flagWrite s (Flag.bit .v) true

/-- CLV (R364). -/
def execClv (s : State) : Res State := flagWrite s (Flag.bit .v) false

/-- SET (R365). -/
def execSetT (s : State) : Res State := flagWrite s (Flag.bit .t) true

/-- CLT (R366). -/
def execClt (s : State) : Res State := flagWrite s (Flag.bit .t) false

/-- SEH (R367). -/
def execSeh (s : State) : Res State := flagWrite s (Flag.bit .h) true

/-- CLH (R368). -/
def execClh (s : State) : Res State := flagWrite s (Flag.bit .h) false

end Sys2Proof.Machine
end

