-- ==== Sys2Proof/Machine/Branch.lean ====
section
/-! DEFINITION. The jumps, calls, returns, compares, skips and conditional branches (spec/42_branch.md R202 to R239). -/
namespace Sys2Proof.Machine

/-- RJMP (R202). -/
def execRjmp (k : BitVec 12) (s : State) : Res State := .next (s.jumpRel k.toInt)

/-- IJMP (R203). -/
def execIjmp (s : State) : Res State := .next (s.setPc (indirectTarget s))

/-- EIJMP (R204). -/
def execEijmp (s : State) : Res State := .next (s.setPc (extendedTarget s))

/-- JMP (R205). -/
def execJmp (k : BitVec 22) (s : State) : Res State := .next (s.setPc k.toNat)

/-- Push the address `n` words past this instruction, then pc <- target (R206). -/
def callTo (s : State) (n target : Nat) : Res State :=
  (pushPc s (s.pc.toNat + n)).andThen fun s1 => .next (s1.setPc target)

/-- RCALL (R206). -/
def execRcall (k : BitVec 12) (s : State) : Res State := callTo s 1 (relTarget s k.toInt)

/-- ICALL; Z is read before anything is pushed (R207). -/
def execIcall (s : State) : Res State := callTo s 1 (indirectTarget s)

/-- EICALL; Z and EIND are read before anything is pushed (R208, log 21). -/
def execEicall (s : State) : Res State := callTo s 1 (extendedTarget s)

/-- CALL (R209). -/
def execCall (k : BitVec 22) (s : State) : Res State := callTo s 2 k.toNat

/-- RET (R210). -/
def execRet (s : State) : Res State := (popPc s).andThen fun p => .next (p.2.setPc p.1)

/-- RETI (R211). -/
def execReti (s : State) : Res State := returnFromInterrupt s

/-- CPSE (R212). -/
def execCpse (d r : Reg) (s : State) : Res State := skipIf s (s.reg d == s.reg r)

/-- CP (R213). -/
def execCp (d r : Reg) (s : State) : Res State :=
  let res := s.reg d - s.reg r
  .next ((s.setSreg (subFlags s.sreg (s.reg d) (s.reg r) res false)).advance 1)

/-- CPC (R214). -/
def execCpc (d r : Reg) (s : State) : Res State :=
  let res := s.reg d - s.reg r - s.carryByte
  .next ((s.setSreg (subFlags s.sreg (s.reg d) (s.reg r) res true)).advance 1)

/-- CPI (R215). -/
def execCpi (d : Reg) (k : BitVec 8) (s : State) : Res State :=
  let res := s.reg d - k
  .next ((s.setSreg (subFlags s.sreg (s.reg d) k res false)).advance 1)

/-- SBRC (R216). -/
def execSbrc (r : Reg) (b : BitNum) (s : State) : Res State := skipIf s (!(s.reg r).getLsbD b.val)

/-- SBRS (R217). -/
def execSbrs (r : Reg) (b : BitNum) (s : State) : Res State := skipIf s ((s.reg r).getLsbD b.val)

/-- SBIC: the whole location is read (R218). -/
def execSbic (a : Fin 32) (b : BitNum) (s : State) : Res State :=
  let p := ioRead s (lowIo a)
  skipIf p.2 (!p.1.getLsbD b.val)

/-- SBIS: the whole location is read (R219). -/
def execSbis (a : Fin 32) (b : BitNum) (s : State) : Res State :=
  let p := ioRead s (lowIo a)
  skipIf p.2 (p.1.getLsbD b.val)

/-- BRBS (R220). -/
def execBrbs (b : BitNum) (k : BitVec 7) (s : State) : Res State := .next (branchIf s (s.sreg.getLsbD b.val) k)

/-- BRBC (R221). -/
def execBrbc (b : BitNum) (k : BitVec 7) (s : State) : Res State := .next (branchIf s (!s.sreg.getLsbD b.val) k)

/-- BREQ (R222). -/
def execBreq (k : BitVec 7) (s : State) : Res State := .next (branchIf s (s.flag .z) k)

/-- BRNE (R223). -/
def execBrne (k : BitVec 7) (s : State) : Res State := .next (branchIf s (!s.flag .z) k)

/-- BRCS (R224). -/
def execBrcs (k : BitVec 7) (s : State) : Res State := .next (branchIf s (s.flag .c) k)

/-- BRCC (R225). -/
def execBrcc (k : BitVec 7) (s : State) : Res State := .next (branchIf s (!s.flag .c) k)

/-- BRSH (R226). -/
def execBrsh (k : BitVec 7) (s : State) : Res State := .next (branchIf s (!s.flag .c) k)

/-- BRLO (R227). -/
def execBrlo (k : BitVec 7) (s : State) : Res State := .next (branchIf s (s.flag .c) k)

/-- BRMI (R228). -/
def execBrmi (k : BitVec 7) (s : State) : Res State := .next (branchIf s (s.flag .n) k)

/-- BRPL (R229). -/
def execBrpl (k : BitVec 7) (s : State) : Res State := .next (branchIf s (!s.flag .n) k)

/-- BRGE (R230). -/
def execBrge (k : BitVec 7) (s : State) : Res State := .next (branchIf s (!s.flag .s) k)

/-- BRLT (R231). -/
def execBrlt (k : BitVec 7) (s : State) : Res State := .next (branchIf s (s.flag .s) k)

/-- BRHS (R232). -/
def execBrhs (k : BitVec 7) (s : State) : Res State := .next (branchIf s (s.flag .h) k)

/-- BRHC (R233). -/
def execBrhc (k : BitVec 7) (s : State) : Res State := .next (branchIf s (!s.flag .h) k)

/-- BRTS (R234). -/
def execBrts (k : BitVec 7) (s : State) : Res State := .next (branchIf s (s.flag .t) k)

/-- BRTC (R235). -/
def execBrtc (k : BitVec 7) (s : State) : Res State := .next (branchIf s (!s.flag .t) k)

/-- BRVS (R236). -/
def execBrvs (k : BitVec 7) (s : State) : Res State := .next (branchIf s (s.flag .v) k)

/-- BRVC (R237). -/
def execBrvc (k : BitVec 7) (s : State) : Res State := .next (branchIf s (!s.flag .v) k)

/-- BRIE (R238). -/
def execBrie (k : BitVec 7) (s : State) : Res State := .next (branchIf s (s.flag .i) k)

/-- BRID (R239). -/
def execBrid (k : BitVec 7) (s : State) : Res State := .next (branchIf s (!s.flag .i) k)

end Sys2Proof.Machine
end

