-- ==== Sys2Proof/Machine/Control.lean ====
section
/-! DEFINITION. BREAK, NOP, SLEEP and WDR (spec/46_mcu_control.md R390 to R393). -/
namespace Sys2Proof.Machine

/-- BREAK: a NOP, or the stopped mode when on-chip debugging is enabled (R390). -/
def execBrk (s : State) : Res State :=
  if s.cfg.ocdEnabled then .next { s.advance 1 with run := .stopped } else .next (s.advance 1)

/-- NOP (R391). -/
def execNop (s : State) : Res State := .next (s.advance 1)

/-- SLEEP: the core sleeps when the device has sleep enabled (R392). -/
def execSleep (s : State) : Res State :=
  if s.sleepEnabled then .next { s.advance 1 with run := .sleeping } else .next (s.advance 1)

/-- WDR: the watchdog is restarted, which no core state shows (R393, log 30). -/
def execWdr (s : State) : Res State := .next (s.advance 1)

end Sys2Proof.Machine
end

