-- ==== Sys2Proof/Machine/DataTransfer.lean ====
section
/-! DEFINITION. The data transfer instructions (spec/43_data_transfer.md R260 to R292). -/
namespace Sys2Proof.Machine

/-- MOV (R260). -/
def execMov (d r : Reg) (s : State) : Res State := .next (s.finish d (s.reg r) s.sreg)

/-- MOVW, both source bytes read first (R261). -/
def execMovw (d r : Reg) (s : State) : Res State := .next (s.finishPair d (s.pair r) s.sreg)

/-- LDI (R262). -/
def execLdi (d : Reg) (k : BitVec 8) (s : State) : Res State := .next (s.finish d k s.sreg)

/-- LDS, two words (R263). -/
def execLds (d : Reg) (k : BitVec 16) (s : State) : Res State := loadFrom s d (directAddr s k) 2

/-- LDS, one word (R264). -/
def execLds16 (d : Reg) (k : BitVec 7) (s : State) : Res State := loadFrom s d (shortAddr k) 1

/-- LD Rd,X (R265). -/
def execLdX (d : Reg) (s : State) : Res State := loadFrom s d (ptrGet s .x) 1

/-- LD Rd,X+ (R266). -/
def execLdXInc (d : Reg) (s : State) : Res State := loadPostInc s .x d

/-- LD Rd,-X (R267). -/
def execLdXDec (d : Reg) (s : State) : Res State := loadPreDec s .x d

/-- LD Rd,Y (R268). -/
def execLdY (d : Reg) (s : State) : Res State := loadFrom s d (ptrGet s .y) 1

/-- LD Rd,Y+ (R269). -/
def execLdYInc (d : Reg) (s : State) : Res State := loadPostInc s .y d

/-- LD Rd,-Y (R270). -/
def execLdYDec (d : Reg) (s : State) : Res State := loadPreDec s .y d

/-- LDD Rd,Y+q (R271). -/
def execLddY (d : Reg) (q : Fin 64) (s : State) : Res State := loadFrom s d (ptrDisp s .y q) 1

/-- LD Rd,Z (R272). -/
def execLdZ (d : Reg) (s : State) : Res State := loadFrom s d (ptrGet s .z) 1

/-- LD Rd,Z+ (R273). -/
def execLdZInc (d : Reg) (s : State) : Res State := loadPostInc s .z d

/-- LD Rd,-Z (R274). -/
def execLdZDec (d : Reg) (s : State) : Res State := loadPreDec s .z d

/-- LDD Rd,Z+q (R275). -/
def execLddZ (d : Reg) (q : Fin 64) (s : State) : Res State := loadFrom s d (ptrDisp s .z q) 1

/-- STS, two words (R276). -/
def execSts (k : BitVec 16) (r : Reg) (s : State) : Res State := storeTo s (directAddr s k) (s.reg r) 2

/-- STS, one word (R277). -/
def execSts16 (k : BitVec 7) (r : Reg) (s : State) : Res State := storeTo s (shortAddr k) (s.reg r) 1

/-- ST X,Rr (R278). -/
def execStX (r : Reg) (s : State) : Res State := storeTo s (ptrGet s .x) (s.reg r) 1

/-- ST X+,Rr (R279). -/
def execStXInc (r : Reg) (s : State) : Res State := storePostInc s .x r

/-- ST -X,Rr (R280). -/
def execStXDec (r : Reg) (s : State) : Res State := storePreDec s .x r

/-- ST Y,Rr (R281). -/
def execStY (r : Reg) (s : State) : Res State := storeTo s (ptrGet s .y) (s.reg r) 1

/-- ST Y+,Rr (R282). -/
def execStYInc (r : Reg) (s : State) : Res State := storePostInc s .y r

/-- ST -Y,Rr (R283). -/
def execStYDec (r : Reg) (s : State) : Res State := storePreDec s .y r

/-- STD Y+q,Rr (R284). -/
def execStdY (q : Fin 64) (r : Reg) (s : State) : Res State := storeTo s (ptrDisp s .y q) (s.reg r) 1

/-- ST Z,Rr (R285). -/
def execStZ (r : Reg) (s : State) : Res State := storeTo s (ptrGet s .z) (s.reg r) 1

/-- ST Z+,Rr (R286). -/
def execStZInc (r : Reg) (s : State) : Res State := storePostInc s .z r

/-- ST -Z,Rr (R287). -/
def execStZDec (r : Reg) (s : State) : Res State := storePreDec s .z r

/-- STD Z+q,Rr (R288). -/
def execStdZ (q : Fin 64) (r : Reg) (s : State) : Res State := storeTo s (ptrDisp s .z q) (s.reg r) 1

/-- IN (R289). -/
def execIoIn (d : Reg) (a : Fin 64) (s : State) : Res State :=
  let p := ioRead s a
  .next ((p.2.setReg d p.1).advance 1)

/-- OUT (R290). -/
def execIoOut (a : Fin 64) (r : Reg) (s : State) : Res State := .next ((ioWrite s a (s.reg r)).advance 1)

/-- PUSH (R291). -/
def execPush (r : Reg) (s : State) : Res State := (push s (s.reg r)).andThen fun s1 => .next (s1.advance 1)

/-- POP (R292). -/
def execPop (d : Reg) (s : State) : Res State :=
  (pop s).andThen fun p => .next ((p.2.setReg d p.1).advance 1)

end Sys2Proof.Machine
end

