-- ==== Sys2Proof/Machine/Des.lean ====
section
/-! DEFINITION. The DES rounds of spec/41_multiply_des.md R187 and R188. The tables are those of FIPS 46, which is not
among the sources: PRESUMED (log 12). Positions count from 1 at the most significant bit, as FIPS 46 counts them. -/
namespace Sys2Proof.Machine

/-- The bits of `x` at the listed positions, the first listed becoming the most significant of the `m` result bits. -/
def desPermute {n : Nat} (m : Nat) (table : List Nat) (x : BitVec n) : BitVec m :=
  BitVec.ofFnBE fun i : Fin m => x.getMsbD (table.getD i.val 1 - 1)

/-- The initial permutation. -/
def desIP : List Nat :=
  [58, 50, 42, 34, 26, 18, 10, 2, 60, 52, 44, 36, 28, 20, 12, 4,
   62, 54, 46, 38, 30, 22, 14, 6, 64, 56, 48, 40, 32, 24, 16, 8,
   57, 49, 41, 33, 25, 17, 9, 1, 59, 51, 43, 35, 27, 19, 11, 3,
   61, 53, 45, 37, 29, 21, 13, 5, 63, 55, 47, 39, 31, 23, 15, 7]

/-- The inverse initial permutation. -/
def desFP : List Nat :=
  [40, 8, 48, 16, 56, 24, 64, 32, 39, 7, 47, 15, 55, 23, 63, 31,
   38, 6, 46, 14, 54, 22, 62, 30, 37, 5, 45, 13, 53, 21, 61, 29,
   36, 4, 44, 12, 52, 20, 60, 28, 35, 3, 43, 11, 51, 19, 59, 27,
   34, 2, 42, 10, 50, 18, 58, 26, 33, 1, 41, 9, 49, 17, 57, 25]

/-- The expansion of the right half. -/
def desE : List Nat :=
  [32, 1, 2, 3, 4, 5, 4, 5, 6, 7, 8, 9, 8, 9, 10, 11,
   12, 13, 12, 13, 14, 15, 16, 17, 16, 17, 18, 19, 20, 21, 20, 21,
   22, 23, 24, 25, 24, 25, 26, 27, 28, 29, 28, 29, 30, 31, 32, 1]

/-- The permutation after the S-boxes. -/
def desP : List Nat :=
  [16, 7, 20, 21, 29, 12, 28, 17, 1, 15, 23, 26, 5, 18, 31, 10,
   2, 8, 24, 14, 32, 27, 3, 9, 19, 13, 30, 6, 22, 11, 4, 25]

/-- Permuted choice 1: key bits without parity. -/
def desPC1 : List Nat :=
  [57, 49, 41, 33, 25, 17, 9, 1, 58, 50, 42, 34, 26, 18,
   10, 2, 59, 51, 43, 35, 27, 19, 11, 3, 60, 52, 44, 36,
   63, 55, 47, 39, 31, 23, 15, 7, 62, 54, 46, 38, 30, 22,
   14, 6, 61, 53, 45, 37, 29, 21, 13, 5, 28, 20, 12, 4]

/-- Permuted choice 2: the 48 bits of a subkey. -/
def desPC2 : List Nat :=
  [14, 17, 11, 24, 1, 5, 3, 28, 15, 6, 21, 10,
   23, 19, 12, 4, 26, 8, 16, 7, 27, 20, 13, 2,
   41, 52, 31, 37, 47, 55, 30, 40, 51, 45, 33, 48,
   44, 49, 39, 56, 34, 53, 46, 42, 50, 36, 29, 32]

/-- How far the key halves stand rotated in round 1 to 16. -/
def desShifts : List Nat :=
  [1, 2, 4, 6, 8, 10, 12, 14, 15, 17, 19, 21, 23, 25, 27, 28]

/-- S-box 1, row by row. -/
def desS1 : List Nat :=
  [14, 4, 13, 1, 2, 15, 11, 8, 3, 10, 6, 12, 5, 9, 0, 7,
   0, 15, 7, 4, 14, 2, 13, 1, 10, 6, 12, 11, 9, 5, 3, 8,
   4, 1, 14, 8, 13, 6, 2, 11, 15, 12, 9, 7, 3, 10, 5, 0,
   15, 12, 8, 2, 4, 9, 1, 7, 5, 11, 3, 14, 10, 0, 6, 13]

/-- S-box 2, row by row. -/
def desS2 : List Nat :=
  [15, 1, 8, 14, 6, 11, 3, 4, 9, 7, 2, 13, 12, 0, 5, 10,
   3, 13, 4, 7, 15, 2, 8, 14, 12, 0, 1, 10, 6, 9, 11, 5,
   0, 14, 7, 11, 10, 4, 13, 1, 5, 8, 12, 6, 9, 3, 2, 15,
   13, 8, 10, 1, 3, 15, 4, 2, 11, 6, 7, 12, 0, 5, 14, 9]

/-- S-box 3, row by row. -/
def desS3 : List Nat :=
  [10, 0, 9, 14, 6, 3, 15, 5, 1, 13, 12, 7, 11, 4, 2, 8,
   13, 7, 0, 9, 3, 4, 6, 10, 2, 8, 5, 14, 12, 11, 15, 1,
   13, 6, 4, 9, 8, 15, 3, 0, 11, 1, 2, 12, 5, 10, 14, 7,
   1, 10, 13, 0, 6, 9, 8, 7, 4, 15, 14, 3, 11, 5, 2, 12]

/-- S-box 4, row by row. -/
def desS4 : List Nat :=
  [7, 13, 14, 3, 0, 6, 9, 10, 1, 2, 8, 5, 11, 12, 4, 15,
   13, 8, 11, 5, 6, 15, 0, 3, 4, 7, 2, 12, 1, 10, 14, 9,
   10, 6, 9, 0, 12, 11, 7, 13, 15, 1, 3, 14, 5, 2, 8, 4,
   3, 15, 0, 6, 10, 1, 13, 8, 9, 4, 5, 11, 12, 7, 2, 14]

/-- S-box 5, row by row. -/
def desS5 : List Nat :=
  [2, 12, 4, 1, 7, 10, 11, 6, 8, 5, 3, 15, 13, 0, 14, 9,
   14, 11, 2, 12, 4, 7, 13, 1, 5, 0, 15, 10, 3, 9, 8, 6,
   4, 2, 1, 11, 10, 13, 7, 8, 15, 9, 12, 5, 6, 3, 0, 14,
   11, 8, 12, 7, 1, 14, 2, 13, 6, 15, 0, 9, 10, 4, 5, 3]

/-- S-box 6, row by row. -/
def desS6 : List Nat :=
  [12, 1, 10, 15, 9, 2, 6, 8, 0, 13, 3, 4, 14, 7, 5, 11,
   10, 15, 4, 2, 7, 12, 9, 5, 6, 1, 13, 14, 0, 11, 3, 8,
   9, 14, 15, 5, 2, 8, 12, 3, 7, 0, 4, 10, 1, 13, 11, 6,
   4, 3, 2, 12, 9, 5, 15, 10, 11, 14, 1, 7, 6, 0, 8, 13]

/-- S-box 7, row by row. -/
def desS7 : List Nat :=
  [4, 11, 2, 14, 15, 0, 8, 13, 3, 12, 9, 7, 5, 10, 6, 1,
   13, 0, 11, 7, 4, 9, 1, 10, 14, 3, 5, 12, 2, 15, 8, 6,
   1, 4, 11, 13, 12, 3, 7, 14, 10, 15, 6, 8, 0, 5, 9, 2,
   6, 11, 13, 8, 1, 4, 10, 7, 9, 5, 0, 15, 14, 2, 3, 12]

/-- S-box 8, row by row. -/
def desS8 : List Nat :=
  [13, 2, 8, 4, 6, 15, 11, 1, 10, 9, 3, 14, 5, 0, 12, 7,
   1, 15, 13, 8, 10, 3, 7, 4, 12, 5, 6, 11, 0, 14, 9, 2,
   7, 11, 4, 1, 9, 12, 14, 2, 0, 6, 10, 13, 15, 3, 5, 8,
   2, 1, 14, 7, 4, 10, 8, 13, 15, 12, 9, 0, 3, 5, 6, 11]

/-- S-box `b`, 0 to 7. -/
def desSBox (b : Nat) : List Nat :=
  [desS1, desS2, desS3, desS4, desS5, desS6, desS7, desS8].getD b []

/-- The four bits S-box `b` gives for the six bits `v`: the outer two select the row, the inner four the column. -/
def desSubstitute (b v : Nat) : Nat := (desSBox b).getD ((v / 32 * 2 + v % 2) * 16 + v / 2 % 16) 0

/-- The subkey of round `i` (0 to 15) for the 64-bit key with its parity bits. -/
def desSubkey (key : BitVec 64) (i : Fin 16) : BitVec 48 :=
  let cd := desPermute 56 desPC1 key
  let n := desShifts.getD i.val 0
  desPermute 48 desPC2 ((cd.extractLsb' 28 28).rotateLeft n ++ (cd.extractLsb' 0 28).rotateLeft n)

/-- The cipher function of a right half and a subkey. -/
def desCipher (r : BitVec 32) (k : BitVec 48) : BitVec 32 :=
  let x := (desPermute 48 desE r ^^^ k).toNat
  desPermute 32 desP
    (BitVec.ofNat 32 ((List.range 8).foldl (fun acc b => acc * 16 + desSubstitute b (x / 2 ^ (42 - 6 * b) % 64)) 0))

/-- One round on the two halves: (L, R) becomes (R, L ⊕ f(R, k)). -/
def desHalves (x : BitVec 32 × BitVec 32) (k : BitVec 48) : BitVec 32 × BitVec 32 := (x.2, x.1 ^^^ desCipher x.2 k)

/-- The halves of a block after the initial permutation. -/
def desSplit (x : BitVec 64) : BitVec 32 × BitVec 32 :=
  let y := desPermute 64 desIP x
  (y.extractLsb' 32 32, y.extractLsb' 0 32)

/-- The block with the given halves before the inverse initial permutation. -/
def desJoin (x : BitVec 32 × BitVec 32) : BitVec 64 := desPermute 64 desFP (x.1 ++ x.2)

/-- The subkey number round `i` uses: rising when encrypting, falling when decrypting. -/
def desKeyIndex (decrypt : Bool) (i : Fin 16) : Fin 16 := if decrypt then i.rev else i

/-- The Data Encryption Standard on one block: what R188 (a) says sixteen rounds compute. -/
def desBlock (decrypt : Bool) (key data : BitVec 64) : BitVec 64 :=
  let y := (List.finRange 16).foldl (fun x i => desHalves x (desSubkey key (desKeyIndex decrypt i))) (desSplit data)
  desJoin (y.2, y.1)

/-- One round with both permutations performed in it (R188 (c)); the halves are not exchanged after the last. -/
def desRoundBlock (decrypt : Bool) (key data : BitVec 64) (i : Fin 16) : BitVec 64 :=
  let y := desHalves (desSplit data) (desSubkey key (desKeyIndex decrypt i))
  if i = 15 then desJoin (y.2, y.1) else desJoin y

/-- The data block and key that the registers stand for before round `i`: themselves before round 0, afterwards what
the device's own coding of the intermediate state holds (R188 (b), a free value, log 12). -/
def desLoad (decrypt : Bool) (i : Fin 16) (x : BitVec 64 × BitVec 64) : BitVec 64 × BitVec 64 :=
  if h : i.val = 0 then x else (Config.desRecode ⟨i.val - 1, by omega⟩ decrypt).symm x

/-- The registers after round `i`: the device's own coding of the intermediate state, and after the last round the
result block with a key part no source states (R188, log 12). -/
def desStore (decrypt : Bool) (i : Fin 16) (x : BitVec 64 × BitVec 64) : BitVec 64 × BitVec 64 :=
  if h : i.val < 15 then Config.desRecode ⟨i.val, h⟩ decrypt x else (x.1, Config.desFinalKey decrypt x)

/-- `DesRound(data, key, K, H)` (R187): `H` selects decryption. -/
def desRound (data key : BitVec 64) (i : Fin 16) (decrypt : Bool) : BitVec 64 × BitVec 64 :=
  let x := desLoad decrypt i (data, key)
  desStore decrypt i (desRoundBlock decrypt x.2 x.1 i, x.2)

end Sys2Proof.Machine
end

