-- ==== Sys2Proof/Machine/Multiply.lean ====
section
/-! DEFINITION. The multiply instructions and DES (spec/41_multiply_des.md R180 to R188). -/
namespace Sys2Proof.Machine

/-- R1:R0 <- res, the flags of R180 for the product `p`, pc <- pc + 1. -/
def productResult (s : State) (p res : Word16) : Res State := .next (s.finishPair 0 res (mulFlags s.sreg p res))

/-- uint8(a) * uint8(b) mod 65536 (R181). -/
def mulUU (a b : Byte) : Word16 := BitVec.ofNat 16 (a.toNat * b.toNat)

/-- sint8(a) * sint8(b) mod 65536 (R182). -/
def mulSS (a b : Byte) : Word16 := BitVec.ofInt 16 (a.toInt * b.toInt)

/-- sint8(a) * uint8(b) mod 65536 (R183). -/
def mulSU (a b : Byte) : Word16 := BitVec.ofInt 16 (a.toInt * (b.toNat : Int))

/-- MUL (R181). -/
def execMul (d r : Reg) (s : State) : Res State :=
  let p := mulUU (s.reg d) (s.reg r)
  productResult s p p

/-- MULS (R182). -/
def execMuls (d r : Reg) (s : State) : Res State :=
  let p := mulSS (s.reg d) (s.reg r)
  productResult s p p

/-- MULSU (R183). -/
def execMulsu (d r : Reg) (s : State) : Res State :=
  let p := mulSU (s.reg d) (s.reg r)
  productResult s p p

/-- FMUL (R184). -/
def execFmul (d r : Reg) (s : State) : Res State :=
  let p := mulUU (s.reg d) (s.reg r)
  productResult s p (p <<< 1)

/-- FMULS (R185). -/
def execFmuls (d r : Reg) (s : State) : Res State :=
  let p := mulSS (s.reg d) (s.reg r)
  productResult s p (p <<< 1)

/-- FMULSU (R186). -/
def execFmulsu (d r : Reg) (s : State) : Res State :=
  let p := mulSU (s.reg d) (s.reg r)
  productResult s p (p <<< 1)

/-- x[d+7]:…:x[d] as a 64-bit number, low byte in x[d] (R187). -/
def State.block (s : State) (d : Nat) : BitVec 64 :=
  s.reg (Fin.ofNat 32 (d + 7)) ++ s.reg (Fin.ofNat 32 (d + 6)) ++ s.reg (Fin.ofNat 32 (d + 5))
    ++ s.reg (Fin.ofNat 32 (d + 4)) ++ s.reg (Fin.ofNat 32 (d + 3)) ++ s.reg (Fin.ofNat 32 (d + 2))
    ++ s.reg (Fin.ofNat 32 (d + 1)) ++ s.reg (Fin.ofNat 32 d)

/-- Byte `i` of a 64-bit block, byte 0 the least significant (R187). -/
def blockByte (v : BitVec 64) (i : Nat) : Byte := v.extractLsb' (8 * i) 8

/-- x[0..7] <- data, x[8..15] <- key, every other register as it is (R187). -/
def State.setBlocks (s : State) (data key : BitVec 64) : State :=
  { s with
    regs := Vector.ofFn fun j : Fin 32 =>
      if j.val < 8 then blockByte data j.val
      else if j.val < 16 then blockByte key (j.val - 8)
      else s.reg j }

/-- DES (R187). -/
def execDes (k : Fin 16) (s : State) : Res State :=
  let out := desRound (s.block 0) (s.block 8) k (s.flag .h)
  .next ((s.setBlocks out.1 out.2).advance 1)

end Sys2Proof.Machine
end

