-- ==== Sys2Proof/Machine/ProgramMemory.lean ====
section
/-! DEFINITION. LPM, ELPM and SPM (spec/44_program_memory.md R320 to R328). -/
namespace Sys2Proof.Machine

/-- x[d] <- ProgByte(b), pc <- pc + 1: the loads from Program memory that leave Z alone. -/
def loadProgram (s : State) (d : Reg) (b : Nat) : Res State :=
  (progByte s b).andThen fun v => .next ((s.setReg d v).advance 1)

/-- LPM, R0 implied (R320). -/
def execLpmR0 (s : State) : Res State := loadProgram s 0 (lpmAddr s)

/-- LPM Rd,Z (R321). -/
def execLpmZ (d : Reg) (s : State) : Res State := loadProgram s d (lpmAddr s)

/-- LPM Rd,Z+; undefined into R30 and R31 (R322). -/
def execLpmZInc (d : Reg) (s : State) : Res State :=
  if Ptr.owns .z d then .fault (.undefinedUse (.lpmPointer d))
  else
    (progByte s (lpmAddr s)).andThen fun v =>
      .next (((s.setReg d v).setPair 30 (BitVec.ofNat 16 (lpmAddr s + 1))).advance 1)

/-- ELPM, R0 implied (R323). -/
def execElpmR0 (s : State) : Res State := loadProgram s 0 (elpmAddr s)

/-- ELPM Rd,Z (R324). -/
def execElpmZ (d : Reg) (s : State) : Res State := loadProgram s d (elpmAddr s)

/-- RAMPZ:Z <- b mod 2^24 (R325). -/
def State.setRampZZ (s : State) (b : Nat) : State :=
  State.setPair { s with rampZ := BitVec.ofNat 8 (b % 2 ^ 24 / 65536) } 30 (BitVec.ofNat 16 b)

/-- ELPM Rd,Z+, the increment over all 24 bits; undefined into R30 and R31 (R325). -/
def execElpmZInc (d : Reg) (s : State) : Res State :=
  if Ptr.owns .z d then .fault (.undefinedUse (.elpmPointer d))
  else
    (progByte s (elpmAddr s)).andThen fun v =>
      .next (((s.setReg d v).setRampZZ (elpmAddr s + 1)).advance 1)

/-- SPM, Z unchanged (R326). -/
def execSpm (s : State) : Res State := (spmAt s (spmAddr s) (s.pair 0)).andThen fun s1 => .next (s1.advance 1)

/-- SPM Z+: then Z <- Z + 2 modulo 65536, RAMPZ unchanged (R327). -/
def execSpmZInc (s : State) : Res State :=
  (spmAt s (spmAddr s) (s.pair 0)).andThen fun s1 => .next ((s1.setPair 30 (s1.pair 30 + 2#16)).advance 1)

end Sys2Proof.Machine
end

