-- ==== Sys2Proof/Machine/Fetch.lean ====
section
/-! DEFINITION. What stands around one instruction: the outside events before a step, the order of a step (spec/00_scope.md
R11), fetching and decoding (spec/20_memory.md R62, spec/30_encoding.md R122), and placing an instruction to be fetched. -/
namespace Sys2Proof.Machine

/-- One outside event other than reset (spec/60_exceptions.md R423). -/
def State.applyInput (s : State) : Input → State
  | .request n => if s.pending.contains n then s else { s with pending := n :: s.pending }
  | .withdraw n => { s with pending := s.pending.filter (fun m => m ≠ n) }
  | .sleepEnable on => { s with sleepEnabled := on }
  | .ioChange a v => if ioTarget s.cfg a = .storage then { s with ioDev := s.ioDev.write a.val v } else s
  | .extChange a v =>
    if dataPlace s.cfg a = .extIo ∧ inSpans s.cfg.extStorage a = true then { s with extDev := s.extDev.write a v }
    else s
  | .reset => s

/-- The events that precede this step, and the state whose list of inputs has moved on (log 15). -/
def State.takeInputs (s : State) : List Input × State :=
  match s.inputs with
  | [] => ([], s)
  | e :: rest => (e, { s with inputs := rest })

/-- A reset event: the reset state of the same device. Program memory and the lock bits stay, the outside goes on
(spec/70_reset_and_hazards.md R440, log 26). -/
def State.resetEvent (s : State) : State :=
  { resetState s.cfg with
    flash := s.flash
    bootLock := s.bootLock
    inputs := s.inputs
    free := s.free }

/-- What a step does, once it is known (R11). -/
inductive StepPlan where
  /-- Nothing: the core is stopped or asleep, or this step is a reset. -/
  | idle (s : State)
  /-- The interrupt entry sequence. -/
  | interrupt (v : VectorEntry) (s : State)
  /-- One instruction, with the hold-off already cleared. -/
  | execute (s : State)
  deriving DecidableEq, Repr

/-- The order of R11 on a state whose outside events have happened: stopped, interrupt, sleeping, instruction. -/
def State.plan (s : State) : StepPlan :=
  if s.run = .stopped then .idle s
  else
    match s.dueInterrupt with
    | some v => .interrupt v s
    | none => if s.run = .sleeping then .idle s else .execute { s with inhibit := false }

/-- The outside events of this step, then its plan; a reset among them is all the step does (R440). -/
def State.beginStep (s : State) : StepPlan :=
  let e := s.takeInputs
  if e.1.contains .reset then .idle e.2.resetEvent
  else (e.1.foldl State.applyInput e.2).plan

/-- Fetch and decode at the pc (R62, R122): a first word without a row the device has is reserved; then the second word
of a two-word instruction is fetched. -/
def fetchInstr (s : State) : Res Instr :=
  (progWord s s.pc.toNat).andThen fun w =>
    match decode s.cfg w 0#16 with
    | .rejected _ => .fault (.reservedOpcode w)
    | .instr i =>
      if isTwoWord w then
        (progWord s (s.pc.toNat + 1)).andThen fun w2 =>
          match decode s.cfg w w2 with
          | .instr i2 => .next i2
          | .rejected _ => .fault (.reservedOpcode w)
      else .next i

/-- The instruction is DES (spec/10_state.md R45). -/
def Instr.isDes (i : Instr) : Bool :=
  match i with
  | .des _ => true
  | _ => false

/-- The state an instruction runs in, remembering for the next one whether this one is DES. -/
def State.noteInstr (s : State) (i : Instr) : State := { s with prevDes := Instr.isDes i }

/-- The state with the bytes `bs` in Program memory from the pc's word address up. -/
def State.placeAtPc (s : State) (bs : List Byte) : State :=
  { s with flash := s.flash.writeBytes (2 * s.pc.toNat) bs }

end Sys2Proof.Machine
end

