-- ==== Sys2Proof/Machine/Step.lean ====
section
/-! DEFINITION. One step of the machine (spec/00_scope.md R11), and an instruction stored where the next step fetches. -/
namespace Sys2Proof.Machine

/-- One step (R11): nothing, an interrupt entry, or the instruction at the pc run to completion. -/
def step (s : State) : Host.Outcome State Fault Refusal :=
  match s.beginStep with
  | .idle t => .next t
  | .interrupt v t => takeInterrupt t v
  | .execute t => (fetchInstr t).andThen fun i => exec i (t.noteInstr i)

/-- The instruction whose bits are `w`, numbered as the opcode table numbers them, stored at the pc: this stands for
loading Program memory from outside (log 16, log 17). -/
def State.withFetchWord (s : State) (nbits w : Nat) : State := s.placeAtPc (tableBytes nbits w)

end Sys2Proof.Machine
end

