-- ==== Sys2Proof/Safety.lean ====
section
/-! DEFINITION. The terms claims are stated in: the invariant of the machine, runs, the end of a run
(spec/60_exceptions.md R424), and the arithmetic readings that the spec gives beside its flag formulas (R140, R141). -/
namespace Sys2Proof.Machine

/-- The invariant every step keeps: an admissible device (R4), pc below 2^`PC_BITS` (R26), SP below 2^`SP_BITS` (R31),
every memory in its canonical form, and no request listed twice. -/
def State.wf (s : State) : Bool :=
  s.cfg.wf && decide (s.pc.toNat < 2 ^ s.cfg.pcBits) && decide (s.sp.toNat < s.cfg.spModulus)
    && Memory.wf s.flash && Memory.wf s.sram && Memory.wf s.ioDev && Memory.wf s.extDev && Memory.wf s.pageBuf
    && decide s.pending.Nodup

/-- `k` steps from `s` end in `t` with no fault and no refusal. -/
def RunsTo (s : State) (k : Nat) (t : State) : Prop := Host.Core.run Sys2Proof.core k s = .next t

/-- A safe run: no number of steps up to `k` ends in a fault or a refusal. -/
def Safe (s : State) (k : Nat) : Prop := ∃ t, RunsTo s k t

/-- The instructions `is`, one after another, with no interrupt between them. -/
def execAll : List Instr → State → Res State
  | [], s => .next s
  | i :: is, s => Res.andThen (exec i s) (execAll is)

/-- The Program memory word at word address `a`, where the device has the address and the program fills it. -/
def wordAt (s : State) (a : Nat) : Option Word16 := if a ≤ s.cfg.flashEnd then s.flash.readWord a else none

/-- Nothing comes from outside before this step (R423). -/
def State.quiet (s : State) : Prop := s.inputs.headD [] = []

/-- No request that `VECTORS` serves is pending or will come: the run has no interrupt left. -/
def State.noRequest (s : State) : Bool :=
  s.cfg.vectors.all fun v => !s.pending.contains v.num && s.inputs.all fun e => !e.contains (.request v.num)

/-- The core is at an RJMP to itself, the word 0xCFFF, which no interrupt can leave: I = 0, or none can come. -/
def State.atSelfJump (s : State) : Bool :=
  s.run == .running && wordAt s s.pc.toNat == some 0xCFFF#16 && (!s.sreg.getLsbD 7 || s.noRequest)

/-- The run has ended in a state nothing but reset leaves: stopped, asleep with I = 0, or at an RJMP to itself that no
interrupt can leave (R424, D34). The remaining end of R424, a model outcome, leaves no state. A core asleep with I = 1 for which
no request ever comes, which U26 calls stuck and the list of R424 does not hold, is not counted as ended (DESIGN CHOICE, log 39). -/
def State.ended (s : State) : Bool :=
  s.run == .stopped || (s.run == .sleeping && !s.sreg.getLsbD 7) || s.atSelfJump

/-- The pc `n` words on, modulo 2^`PC_BITS` (R26). -/
def State.pcAfter (s : State) (n : Nat) : BitVec 22 := BitVec.ofNat 22 ((s.pc.toNat + n) % 2 ^ s.cfg.pcBits)

/-- The pc at `pc + k + 1` for a signed offset `k`, modulo 2^`PC_BITS` (R201). -/
def State.pcRel (s : State) (k : Int) : BitVec 22 :=
  BitVec.ofInt 22 (((s.pc.toNat : Int) + k + 1) % 2 ^ s.cfg.pcBits)

/-- SREG after an addition of `a`, `b` and a carry `cin`, from the arithmetic statement of R140: C and H are the carries
out of bits 7 and 3 of the unsigned sum, V says the signed sum lies outside -128..127. -/
def sumSreg (old a b : Byte) (cin : Nat) : Byte :=
  let t := a.toNat + b.toNat + cin
  let v := a.toInt + b.toInt + cin
  let n := decide (128 ≤ t % 256)
  let o := decide (v < -128 ∨ 127 < v)
  packFlags (old.getLsbD 7) (old.getLsbD 6) (decide (16 ≤ a.toNat % 16 + b.toNat % 16 + cin)) (n ^^ o) o n
    (decide (t % 256 = 0)) (decide (256 ≤ t))

/-- SREG after `a - b - bin`, from the arithmetic statement of R141: C and H are the unsigned borrows, V says the signed
difference lies outside -128..127, and with `keepZ` Z stays set only where it was set. -/
def diffSreg (old a b : Byte) (bin : Nat) (keepZ : Bool) : Byte :=
  let r := (a.toNat + 512 - b.toNat - bin) % 256
  let v := a.toInt - b.toInt - bin
  let n := decide (128 ≤ r)
  let o := decide (v < -128 ∨ 127 < v)
  packFlags (old.getLsbD 7) (old.getLsbD 6) (decide (a.toNat % 16 < b.toNat % 16 + bin)) (n ^^ o) o n
    (decide (r = 0) && (!keepZ || old.getLsbD 1)) (decide (a.toNat < b.toNat + bin))

/-- SREG.C as a number, the carry or borrow into an operation. -/
def State.carryNat (s : State) : Nat := if s.sreg.getLsbD 0 then 1 else 0

/-- The number x[d+1]:x[d] (R8). -/
def State.pairNat (s : State) (d : Reg) : Nat := (s.reg (d + 1)).toNat * 256 + (s.reg d).toNat

/-- The meaning may change I: SEI, CLI, BSET 7, BCLR 7, RETI, or a write that can land on SREG (R411). -/
def Instr.mayWriteI : Instr → Bool
  | .bset b | .bclr b => b == 7
  | .sei | .cli | .reti => true
  | .ioOut _ _ | .sbi _ _ | .cbi _ _ => true
  | .sts _ _ | .sts16 _ _ | .stX _ | .stXInc _ | .stXDec _ | .stY _ | .stYInc _ | .stYDec _ | .stdY _ _
  | .stZ _ | .stZInc _ | .stZDec _ | .stdZ _ _ | .push _ => true
  | .rcall _ | .icall | .eicall | .call _ => true
  | _ => false

/-! ### What a load, a store and a call come to -/

/-- What a load from data address `a` in state `s` comes to, in every place of the data space: the byte the state holds
there goes to `fin`; a device location whose value the spec does not state gives some byte, and one free value is drawn;
what holds no byte ends the step. `fin v t` is the instruction's state after reading `v` in state `t`. -/
def LoadOutcome (r : Res State) (s : State) (a : Nat) (fin : Byte → State → State) : Prop :=
  match peek s a with
  | some v => r = .next (fin v s)
  | none =>
    match dataPlace s.cfg a with
    | .register _ => False
    | .io _ => ∃ v, r = .next (fin v { s with free := s.free + 1 })
    | .extIo => ∃ v, r = .next (fin v { s with free := s.free + 1 })
    | .flash b => r = .fault (.outOfRange .program b)
    | .sram => r = .fault (.unwritten a)
    | .nowhere => r = .fault (.outOfRange .data a)

/-- What a store of `v` at data address `a` in state `s` comes to, in every place of the data space. `fin t` is the
instruction's state once the byte is stored and the state is `t`. -/
def StoreOutcome (r : Res State) (s : State) (a : Nat) (v : Byte) (fin : State → State) : Prop :=
  match dataPlace s.cfg a with
  | .register d => r = .next (fin { s with regs := s.regs.set d v })
  | .io i => r = .next (fin (ioWrite s i v))
  | .extIo =>
    r = .next (fin (if inSpans s.cfg.extStorage a then { s with extDev := s.extDev.write a v } else s))
  | .flash _ => r = .refused (.deviceDefined (.storeToFlash a))
  | .sram => r = .next (fin { s with sram := s.sram.write a v })
  | .nowhere => r = .fault (.outOfRange .data a)

/-- `s` with the byte `v` in x[d] and the pc `n` words on. -/
def State.loaded (s : State) (d : Reg) (v : Byte) (n : Nat) : State :=
  { s with regs := s.regs.set d v, pc := s.pcAfter n }

/-- `s` with the pc `n` words on. -/
def State.moved (s : State) (n : Nat) : State := { s with pc := s.pcAfter n }

/-- The registers once the number `n` is in the pair x[d+1]:x[d], low byte in x[d] (spec/00_scope.md R8). -/
def pairRegs (regs : Vector Byte 32) (d : Reg) (n : Nat) : Vector Byte 32 :=
  (regs.set d.val (BitVec.ofNat 8 n)).set (d + 1 : Reg).val (BitVec.ofNat 8 (n / 256))

/-- The state after a one-word computation that puts `v` in x[d] and `f` in SREG. -/
def State.computed (s : State) (d : Reg) (v f : Byte) : State :=
  { s with regs := s.regs.set d v, sreg := f, pc := s.pcAfter 1 }

/-- The state after a conditional branch with offset `k` (spec/42_branch.md R220, R221). -/
def State.branched (s : State) (cond : Bool) (k : BitVec 7) : State :=
  { s with pc := if cond then s.pcRel k.toInt else s.pcAfter 1 }

/-- The state after SREG bit `b` is set or cleared by its own instruction: setting I also holds interrupts off for one
instruction (spec/45_bit_and_bit_test.md R347, R348, R359). -/
def State.flagged (s : State) (b : BitNum) (on : Bool) : State :=
  { s with
    sreg := withBit s.sreg b on
    inhibit := s.inhibit || (b == 7 && on)
    pc := s.pcAfter 1 }

/-- What a skip instruction comes to that skips when `cond` holds (spec/42_branch.md R200, R212): the pc one on; or past
the next instruction, one or two words, whose first word must be there to be measured. -/
def SkipOutcome (r : Res State) (s : State) (cond : Bool) : Prop :=
  if cond then
    match wordAt s (s.pc.toNat + 1) with
    | some w => r = .next (s.moved (if isTwoWord w then 3 else 2))
    | none => r = .fault (.outOfRange .program (s.pc.toNat + 1))
  else r = .next (s.moved 1)

/-- SP - `i` modulo 2^`SP_BITS` (spec/10_state.md R31): where the `i`-th byte pushed from now on goes. -/
def State.stackDown (s : State) (i : Nat) : Nat := (s.sp.toNat + s.cfg.spModulus - i) % s.cfg.spModulus

/-- SP + `i` modulo 2^`SP_BITS` (R31): where the `i`-th byte popped from now on comes from. -/
def State.stackUp (s : State) (i : Nat) : Nat := (s.sp.toNat + i) % s.cfg.spModulus

/-- The next `n` bytes pushed go to SRAM. -/
def State.stackRoom (s : State) (n : Nat) : Prop :=
  s.sp.toNat < s.cfg.spModulus ∧ ∀ i < n, dataPlace s.cfg (s.stackDown i) = .sram

/-- The next `n` bytes popped stand in SRAM; the `i`-th is `b i`. -/
def State.stackHolds (s : State) (n : Nat) (b : Nat → Byte) : Prop :=
  s.sp.toNat < s.cfg.spModulus
    ∧ ∀ i < n, dataPlace s.cfg (s.stackUp (i + 1)) = .sram ∧ s.sram.read (s.stackUp (i + 1)) = some (b i)

/-- SRAM once the return address `a` is pushed: the low byte at SP, the next below it, and with three `PC_BYTES` the top
byte below that (spec/20_memory.md R76). -/
def State.pushedSram (s : State) (a : Nat) : Memory :=
  let m := (s.sram.write (s.stackDown 0) (BitVec.ofNat 8 a)).write (s.stackDown 1) (BitVec.ofNat 8 (a / 256))
  if s.cfg.pcBytes = 3 then m.write (s.stackDown 2) (BitVec.ofNat 8 (a / 65536)) else m

/-- The return address in the bytes popped first to last (R76). -/
def poppedAddr (c : Config) (b : Nat → Byte) : Nat :=
  if c.pcBytes = 3 then (b 0).toNat * 65536 + (b 1).toNat * 256 + (b 2).toNat
  else (b 0).toNat * 256 + (b 1).toNat

/-- The state after a call that pushes return address `a` and goes to `target`, the stack being in SRAM. -/
def State.called (s : State) (a target : Nat) : State :=
  { s with
    sram := s.pushedSram a
    sp := BitVec.ofNat 16 (s.stackDown s.cfg.pcBytes)
    pc := BitVec.ofNat 22 (target % 2 ^ s.cfg.pcBits) }

/-- The core takes no interrupt and is awake: the step runs the instruction at the pc (spec/00_scope.md R11). -/
def State.runsNext (s : State) : Prop :=
  s.run = .running ∧ (s.sreg.getLsbD 7 = false ∨ s.inhibit = true ∨ ∀ v ∈ s.cfg.vectors, v.num ∉ s.pending)

/-! ### The opcode boxes

Each format of spec/30_encoding.md as the manual draws it, most significant bit first. -/

/-- The five bits of a register number. -/
def regBits (d : Reg) : BitVec 5 := BitVec.ofNat 5 d.val

/-- `oooo oord dddd rrrr` (R102). -/
def boxRR (op : BitVec 6) (d r : Reg) : Word16 :=
  op ++ (regBits r).extractLsb' 4 1 ++ regBits d ++ (regBits r).extractLsb' 0 4

/-- `oooo KKKK dddd KKKK` (R103). -/
def boxRI (op : BitVec 4) (d : Reg) (k : BitVec 8) : Word16 :=
  op ++ k.extractLsb' 4 4 ++ (regBits d).extractLsb' 0 4 ++ k.extractLsb' 0 4

/-- `1001 010d dddd oooo` (R104). -/
def boxR1 (op : BitVec 4) (d : Reg) : Word16 := 0b1001010#7 ++ regBits d ++ op

/-- `1001 00sd dddd mmmm` (R105). -/
def boxLdSt (s : BitVec 1) (m : BitVec 4) (d : Reg) : Word16 := 0b100100#6 ++ s ++ regBits d ++ m

/-- `10q0 qqsd dddd yqqq` (R107). -/
def boxDisp (s y : BitVec 1) (d : Reg) (q : Fin 64) : Word16 :=
  let q := BitVec.ofNat 6 q.val
  0b10#2 ++ q.extractLsb' 5 1 ++ 0#1 ++ q.extractLsb' 3 2 ++ s ++ regBits d ++ y ++ q.extractLsb' 0 3

/-- `1010 skkk dddd kkkk` (R108). -/
def boxShort (s : BitVec 1) (d : Reg) (k : BitVec 7) : Word16 :=
  0b1010#4 ++ s ++ k.extractLsb' 4 3 ++ (regBits d).extractLsb' 0 4 ++ k.extractLsb' 0 4

/-- `1001 011o KKdd KKKK`, dd naming the pair R24 + 2 × dd (R109). -/
def boxIW (o : BitVec 1) (d : Reg) (k : Fin 64) : Word16 :=
  let k := BitVec.ofNat 6 k.val
  0b1001011#7 ++ o ++ k.extractLsb' 4 2 ++ (regBits d).extractLsb' 1 2 ++ k.extractLsb' 0 4

/-- `1011 sAAd dddd AAAA` (R110). -/
def boxIO (s : BitVec 1) (d : Reg) (a : Fin 64) : Word16 :=
  let a := BitVec.ofNat 6 a.val
  0b1011#4 ++ s ++ a.extractLsb' 4 2 ++ regBits d ++ a.extractLsb' 0 4

/-- `1001 10oo AAAA Abbb` (R111). -/
def boxIoBit (o : BitVec 2) (a : Fin 32) (b : BitNum) : Word16 :=
  0b100110#6 ++ o ++ BitVec.ofNat 5 a.val ++ BitVec.ofNat 3 b.val

/-- `110o kkkk kkkk kkkk` (R112). -/
def boxRel12 (o : BitVec 1) (k : BitVec 12) : Word16 := 0b110#3 ++ o ++ k

/-- `1111 0okk kkkk ksss` (R113). -/
def boxBr7 (o : BitVec 1) (s : BitNum) (k : BitVec 7) : Word16 := 0b11110#5 ++ o ++ k ++ BitVec.ofNat 3 s.val

/-- `1111 1ood dddd 0bbb` (R114). -/
def boxRBit (o : BitVec 2) (d : Reg) (b : BitNum) : Word16 :=
  0b11111#5 ++ o ++ regBits d ++ 0#1 ++ BitVec.ofNat 3 b.val

/-- `1001 0100 osss 1000` (R115). -/
def boxSregBit (o : BitVec 1) (s : BitNum) : Word16 := 0b10010100#8 ++ o ++ BitVec.ofNat 3 s.val ++ 0b1000#4

/-- The first word of `1001 010k kkkk 11ok kkkk kkkk kkkk kkkk` (R116). -/
def boxAbs22 (o : BitVec 1) (k : BitVec 22) : Word16 :=
  0b1001010#7 ++ k.extractLsb' 17 5 ++ 0b11#2 ++ o ++ k.extractLsb' 16 1

/-- `0000 0001 dddd rrrr`, naming R(2 × dddd) and R(2 × rrrr) (R117). -/
def boxMovw (d r : Reg) : Word16 := 0b00000001#8 ++ (regBits d).extractLsb' 1 4 ++ (regBits r).extractLsb' 1 4

/-- `0000 0010 dddd rrrr` (R118). -/
def boxMuls (d r : Reg) : Word16 := 0b00000010#8 ++ (regBits d).extractLsb' 0 4 ++ (regBits r).extractLsb' 0 4

/-- `0000 0011 oddd orrr` (R119). -/
def boxMul3 (o7 o3 : BitVec 1) (d r : Reg) : Word16 :=
  0b00000011#8 ++ o7 ++ (regBits d).extractLsb' 0 3 ++ o3 ++ (regBits r).extractLsb' 0 3

/-- `1001 0100 KKKK 1011` (R120). -/
def boxDes (k : Fin 16) : Word16 := 0b10010100#8 ++ BitVec.ofNat 4 k.val ++ 0b1011#4

end Sys2Proof.Machine
end

