-- ==== Sys2Proof/Certificates/Slice0/Obligations.lean ====
section
/-! DEFINITION. The statements about the machine, one definition each. They are listed in OBLIGATIONS.json. -/

open Sys2Proof Sys2Proof.Machine

/-! ### Arithmetic and logic -/

/-- R140: the six flags of `AddFlags` by its formulas, and its arithmetic statement: with t = a + b + cin, C says t ≥ 256,
H says the low nibbles and cin reach 16, V says the signed sum leaves -128..127. I and T are kept. -/
def Obligations.AddFlagsMeaning : Prop :=
  ∀ (old a b : Byte) (cin : Bool),
    let r := a + b + (if cin then 1#8 else 0#8)
    let n := r.getLsbD 7
    let v := (a.getLsbD 7 && b.getLsbD 7 && !r.getLsbD 7) || (!a.getLsbD 7 && !b.getLsbD 7 && r.getLsbD 7)
    addFlags old a b r
        = packFlags (old.getLsbD 7) (old.getLsbD 6)
            ((a.getLsbD 3 && b.getLsbD 3) || (b.getLsbD 3 && !r.getLsbD 3) || (!r.getLsbD 3 && a.getLsbD 3))
            (n ^^ v) v n (r == 0#8)
            ((a.getLsbD 7 && b.getLsbD 7) || (b.getLsbD 7 && !r.getLsbD 7) || (!r.getLsbD 7 && a.getLsbD 7))
      ∧ addFlags old a b r = sumSreg old a b (if cin then 1 else 0)

/-- R141: the six flags of `SubFlags` by its formulas, and its arithmetic statement: C and H are the unsigned borrows, V
says the signed difference leaves -128..127; with keepZ, Z stays set only where it was set. I and T are kept. -/
def Obligations.SubFlagsMeaning : Prop :=
  ∀ (old a b : Byte) (bin keepZ : Bool),
    let r := a - b - (if bin then 1#8 else 0#8)
    let n := r.getLsbD 7
    let v := (a.getLsbD 7 && !b.getLsbD 7 && !r.getLsbD 7) || (!a.getLsbD 7 && b.getLsbD 7 && r.getLsbD 7)
    subFlags old a b r keepZ
        = packFlags (old.getLsbD 7) (old.getLsbD 6)
            ((!a.getLsbD 3 && b.getLsbD 3) || (b.getLsbD 3 && r.getLsbD 3) || (r.getLsbD 3 && !a.getLsbD 3))
            (n ^^ v) v n (if keepZ then r == 0#8 && old.getLsbD 1 else r == 0#8)
            ((!a.getLsbD 7 && b.getLsbD 7) || (b.getLsbD 7 && r.getLsbD 7) || (r.getLsbD 7 && !a.getLsbD 7))
      ∧ subFlags old a b r keepZ = diffSreg old a b (if bin then 1 else 0) keepZ

/-- R143, R144, R341, R343: ADD, ADC, LSL, ROL complete in every state: x[d] gets the sum (the doubled byte) modulo 256,
the flags are those of the arithmetic statement of R140 (for LSL and ROL the ones their rules list), the pc is one on, and
nothing else changes. The opcode boxes are those of the rules. -/
def Obligations.Additions : Prop :=
  ∀ (d r : Reg) (s : State),
    let a := s.reg d
    let b := s.reg r
    let twice (low : Nat) : Res State :=
      let v := BitVec.ofNat 8 (2 * a.toNat + low)
      let c := a.getLsbD 7
      let n := v.getLsbD 7
      .next (s.computed d v (setHSVNZC s.sreg (a.getLsbD 3) (n ^^ c) n (v == 0#8) c))
    (exec (.add d r) s = .next (s.computed d (BitVec.ofNat 8 (a.toNat + b.toNat)) (sumSreg s.sreg a b 0))
        ∧ encode (.add d r) = [boxRR 0b000011#6 d r])
      ∧ (exec (.adc d r) s
            = .next (s.computed d (BitVec.ofNat 8 (a.toNat + b.toNat + s.carryNat)) (sumSreg s.sreg a b s.carryNat))
        ∧ encode (.adc d r) = [boxRR 0b000111#6 d r])
      ∧ (exec (.lsl d) s = twice 0 ∧ encode (.lsl d) = [boxRR 0b000011#6 d d])
      ∧ (exec (.rol d) s = twice s.carryNat ∧ encode (.rol d) = [boxRR 0b000111#6 d d])

/-- R146 to R149: SUB, SUBI, SBC, SBCI complete in every state: x[d] gets the difference modulo 256, the flags are those
of the arithmetic statement of R141, with the keep rule for Z in SBC and SBCI, and nothing else changes but the pc. -/
def Obligations.Subtractions : Prop :=
  ∀ (d r : Reg) (k : BitVec 8) (s : State),
    let less (b : Byte) (bin : Nat) (keepZ : Bool) : Res State :=
      .next (s.computed d (BitVec.ofInt 8 ((s.reg d).toNat - b.toNat - bin)) (diffSreg s.sreg (s.reg d) b bin keepZ))
    (exec (.sub d r) s = less (s.reg r) 0 false ∧ encode (.sub d r) = [boxRR 0b000110#6 d r])
      ∧ (exec (.subi d k) s = less k 0 false ∧ (16 ≤ d.val → encode (.subi d k) = [boxRI 0b0101#4 d k]))
      ∧ (exec (.sbc d r) s = less (s.reg r) s.carryNat true ∧ encode (.sbc d r) = [boxRR 0b000010#6 d r])
      ∧ (exec (.sbci d k) s = less k s.carryNat true ∧ (16 ≤ d.val → encode (.sbci d k) = [boxRI 0b0100#4 d k]))

/-- R213 to R215: CP, CPC, CPI complete in every state: they set the flags the subtraction would set and change no
register. -/
def Obligations.Compares : Prop :=
  ∀ (d r : Reg) (k : BitVec 8) (s : State),
    let cmp (b : Byte) (bin : Nat) (keepZ : Bool) : Res State :=
      .next { s with sreg := diffSreg s.sreg (s.reg d) b bin keepZ, pc := s.pcAfter 1 }
    (exec (.cp d r) s = cmp (s.reg r) 0 false ∧ encode (.cp d r) = [boxRR 0b000101#6 d r])
      ∧ (exec (.cpc d r) s = cmp (s.reg r) s.carryNat true ∧ encode (.cpc d r) = [boxRR 0b000001#6 d r])
      ∧ (exec (.cpi d k) s = cmp k 0 false ∧ (16 ≤ d.val → encode (.cpi d k) = [boxRI 0b0011#4 d k]))

/-- R145, R150: ADIW and SBIW complete in every state: the pair gets the sum or difference modulo 65536; C is the carry
or borrow, V the signed 16-bit overflow, N bit 15, Z of the whole word, S = N ⊕ V; H, T, I and all else are kept. -/
def Obligations.WordImmediates : Prop :=
  ∀ (d : Reg) (k : Fin 64) (s : State),
    let a := s.pairNat d
    let res (x : Nat) (v c : Bool) : Res State :=
      .next { s with
        regs := pairRegs s.regs d x
        sreg := setSVNZC s.sreg v (decide (32768 ≤ x)) (decide (x = 0)) c
        pc := s.pcAfter 1 }
    (exec (.adiw d k) s
          = res ((a + k.val) % 65536) (decide (a < 32768 ∧ 32768 ≤ a + k.val)) (decide (65536 ≤ a + k.val))
        ∧ (24 ≤ d.val → d.val % 2 = 0 → encode (.adiw d k) = [boxIW 0 d k]))
      ∧ (exec (.sbiw d k) s
          = res ((a + 65536 - k.val) % 65536) (decide (32768 ≤ a ∧ a - k.val < 32768)) (decide (a < k.val))
        ∧ (24 ≤ d.val → d.val % 2 = 0 → encode (.sbiw d k) = [boxIW 1 d k]))

/-- R151 to R155, R158, R159, R162, R163: the logic instructions complete in every state: x[d] gets the result bit by bit,
V is 0, N is bit 7, Z says the result is 0, S = N; H, C, T, I and all else are kept. -/
def Obligations.LogicOperations : Prop :=
  ∀ (d r : Reg) (k : BitVec 8) (s : State),
    let out (f : Bool → Bool → Bool) (b : Byte) (t : Res State) : Prop :=
      ∃ v : Byte, (∀ j : BitNum, v.getLsbD j.val = f ((s.reg d).getLsbD j.val) (b.getLsbD j.val))
        ∧ t = .next (s.computed d v
            (packFlags (s.sreg.getLsbD 7) (s.sreg.getLsbD 6) (s.sreg.getLsbD 5) (v.getLsbD 7) false (v.getLsbD 7)
              (v == 0#8) (s.sreg.getLsbD 0)))
    (out (fun x y => x && y) (s.reg r) (exec (.and d r) s) ∧ encode (.and d r) = [boxRR 0b001000#6 d r])
      ∧ (out (fun x y => x && y) k (exec (.andi d k) s) ∧ (16 ≤ d.val → encode (.andi d k) = [boxRI 0b0111#4 d k]))
      ∧ (out (fun x y => x || y) (s.reg r) (exec (.or d r) s) ∧ encode (.or d r) = [boxRR 0b001010#6 d r])
      ∧ (out (fun x y => x || y) k (exec (.ori d k) s) ∧ (16 ≤ d.val → encode (.ori d k) = [boxRI 0b0110#4 d k]))
      ∧ (out (fun x y => x ^^ y) (s.reg r) (exec (.eor d r) s) ∧ encode (.eor d r) = [boxRR 0b001001#6 d r])
      ∧ (out (fun x y => x || y) k (exec (.sbr d k) s) ∧ (16 ≤ d.val → encode (.sbr d k) = [boxRI 0b0110#4 d k]))
      ∧ (out (fun x y => x && !y) k (exec (.cbr d k) s)
          ∧ (16 ≤ d.val → encode (.cbr d k) = [boxRI 0b0111#4 d (0xFF#8 - k)]))
      ∧ (out (fun x _ => x) 0#8 (exec (.tst d) s) ∧ encode (.tst d) = [boxRR 0b001000#6 d d])
      ∧ (out (fun _ _ => false) 0#8 (exec (.clr d) s) ∧ encode (.clr d) = [boxRR 0b001001#6 d d])

/-- R156, R157, R160, R161: COM, NEG, INC, DEC complete in every state, with the flags of their rules; the six flags of NEG
are those of the subtraction from 0. -/
def Obligations.OneOperand : Prop :=
  ∀ (d : Reg) (s : State),
    let a := s.reg d
    let com := BitVec.ofNat 8 (255 - a.toNat)
    let neg := BitVec.ofNat 8 (256 - a.toNat)
    let inc := BitVec.ofNat 8 (a.toNat + 1)
    let dec := BitVec.ofNat 8 (a.toNat + 255)
    (exec (.com d) s = .next (s.computed d com (setSVNZC s.sreg false (com.getLsbD 7) (com == 0#8) true))
        ∧ encode (.com d) = [boxR1 0b0000#4 d])
      ∧ (exec (.neg d) s
            = .next (s.computed d neg (setHSVNZC s.sreg (neg.getLsbD 3 || a.getLsbD 3) (decide (a = 0x80#8))
                (neg.getLsbD 7) (neg == 0#8) (decide (a ≠ 0#8))))
        ∧ exec (.neg d) s = .next (s.computed d neg (diffSreg s.sreg 0#8 a 0 false))
        ∧ encode (.neg d) = [boxR1 0b0001#4 d])
      ∧ (exec (.inc d) s = .next (s.computed d inc (setSVNZ s.sreg (decide (a = 0x7F#8)) (inc.getLsbD 7) (inc == 0#8)))
        ∧ encode (.inc d) = [boxR1 0b0011#4 d])
      ∧ (exec (.dec d) s = .next (s.computed d dec (setSVNZ s.sreg (decide (a = 0x80#8)) (dec.getLsbD 7) (dec == 0#8)))
        ∧ encode (.dec d) = [boxR1 0b1010#4 d])

/-- R164, R260 to R262: SER, MOV, MOVW, LDI complete in every state, copy or load, and leave SREG alone. For MOVW both
bytes of the source pair are read first. -/
def Obligations.Moves : Prop :=
  ∀ (d r : Reg) (k : BitVec 8) (s : State),
    (exec (.mov d r) s = .next (s.loaded d (s.reg r) 1) ∧ encode (.mov d r) = [boxRR 0b001011#6 d r])
      ∧ (exec (.movw d r) s = .next { s with regs := pairRegs s.regs d (s.pairNat r), pc := s.pcAfter 1 }
        ∧ (d.val % 2 = 0 → r.val % 2 = 0 → encode (.movw d r) = [boxMovw d r]))
      ∧ (exec (.ldi d k) s = .next (s.loaded d k 1) ∧ (16 ≤ d.val → encode (.ldi d k) = [boxRI 0b1110#4 d k]))
      ∧ (exec (.ser d) s = .next (s.loaded d 0xFF#8 1) ∧ (16 ≤ d.val → encode (.ser d) = [boxRI 0b1110#4 d 0xFF#8]))

/-- R180 to R186: the six multiplies complete in every state: R1:R0 gets the exact product of the operands as the rule
reads them (signed or unsigned) modulo 65536, shifted left once by the fractional forms; C is bit 15 of the product before
the shift, Z is of what is written, the other six flags and all else are kept. Both operands are read first. -/
def Obligations.Multiplies : Prop :=
  ∀ (d r : Reg) (s : State),
    let a := s.reg d
    let b := s.reg r
    let out (p : Int) (shift : Nat) : Res State :=
      let w := (p * 2 ^ shift % 65536).toNat
      .next { s with
        regs := pairRegs s.regs 0 w
        sreg := setZC s.sreg (decide (w = 0)) (decide (32768 ≤ p % 65536))
        pc := s.pcAfter 1 }
    let upper := 16 ≤ d.val ∧ 16 ≤ r.val
    let eight := 16 ≤ d.val ∧ d.val ≤ 23 ∧ 16 ≤ r.val ∧ r.val ≤ 23
    (exec (.mul d r) s = out (a.toNat * b.toNat) 0 ∧ encode (.mul d r) = [boxRR 0b100111#6 d r])
      ∧ (exec (.muls d r) s = out (a.toInt * b.toInt) 0 ∧ (upper → encode (.muls d r) = [boxMuls d r]))
      ∧ (exec (.mulsu d r) s = out (a.toInt * b.toNat) 0 ∧ (eight → encode (.mulsu d r) = [boxMul3 0 0 d r]))
      ∧ (exec (.fmul d r) s = out (a.toNat * b.toNat) 1 ∧ (eight → encode (.fmul d r) = [boxMul3 0 1 d r]))
      ∧ (exec (.fmuls d r) s = out (a.toInt * b.toInt) 1 ∧ (eight → encode (.fmuls d r) = [boxMul3 1 0 d r]))
      ∧ (exec (.fmulsu d r) s = out (a.toInt * b.toNat) 1 ∧ (eight → encode (.fmulsu d r) = [boxMul3 1 1 d r]))

/-- R165 (a) to (f), the spec's own consequences of its rules: sums and differences with C as the ninth bit; S = N ⊕ V after
what writes S; the 16-bit add/adc and sub/sbc pairs whose second source is not the first result; the orders of bytes; COM and NEG. -/
def Obligations.ArithmeticLaws : Prop :=
  (∀ (d r : Reg) (s t : State) (i : Instr), (i = .add d r ∨ i = .adc d r) → exec i s = .next t →
      256 * t.carryNat + (t.reg d).toNat
        = (s.reg d).toNat + (s.reg r).toNat + (if i = .adc d r then s.carryNat else 0))
    ∧ (∀ (d r : Reg) (k : BitVec 8) (s t : State) (i : Instr),
      (i = .sub d r ∨ i = .sbc d r ∨ i = .subi d k ∨ i = .sbci d k) → exec i s = .next t →
      ((t.reg d).toNat : Int) - 256 * t.carryNat
        = (s.reg d).toNat - (if i = .sub d r ∨ i = .sbc d r then (s.reg r).toNat else k.toNat)
          - (if i = .sbc d r ∨ i = .sbci d k then s.carryNat else 0))
    ∧ (∀ (d r : Reg) (k : BitVec 8) (w : Fin 64) (s t : State) (i : Instr),
      i ∈ [.add d r, .adc d r, .adiw d w, .sub d r, .subi d k, .sbc d r, .sbci d k, .sbiw d w, .and d r, .andi d k,
        .or d r, .ori d k, .eor d r, .com d, .neg d, .sbr d k, .cbr d k, .inc d, .dec d, .tst d, .clr d] →
      exec i s = .next t → t.flag .s = (t.flag .n ^^ t.flag .v))
    ∧ (∀ (d r : Reg) (s t : State), r + 1 ≠ d → execAll [.add d r, .adc (d + 1) (r + 1)] s = .next t →
      65536 * t.carryNat + t.pairNat d = s.pairNat d + s.pairNat r
        ∧ (t.flag .v = true ↔
            ¬(-32768 ≤ (s.pair d).toInt + (s.pair r).toInt ∧ (s.pair d).toInt + (s.pair r).toInt ≤ 32767)))
    ∧ (∀ (d r : Reg) (s t : State), r + 1 ≠ d → execAll [.sub d r, .sbc (d + 1) (r + 1)] s = .next t →
      ((t.pairNat d : Int) - 65536 * t.carryNat = s.pairNat d - s.pairNat r)
        ∧ (t.flag .v = true ↔
            ¬(-32768 ≤ (s.pair d).toInt - (s.pair r).toInt ∧ (s.pair d).toInt - (s.pair r).toInt ≤ 32767))
        ∧ (t.flag .z = true ↔ t.pairNat d = 0))
    ∧ (∀ (d r : Reg) (s t : State), exec (.cp d r) s = .next t →
      (t.flag .c = true ↔ (s.reg d).toNat < (s.reg r).toNat)
        ∧ (t.flag .s = true ↔ (s.reg d).toInt < (s.reg r).toInt))
    ∧ (∀ (d : Reg) (s t u : State), execAll [.com d, .inc d] s = .next t → exec (.neg d) s = .next u →
      t.reg d = u.reg d)

/-- R187: DES completes in every state: data block and key, read from R7:R0 and R15:R8, become what the round gives for
them, the round number and H; R16 to R31, SREG and everything else but the pc are kept. -/
def Obligations.DesRoundEffect : Prop :=
  ∀ (k : Fin 16) (s : State),
    encode (.des k) = [boxDes k]
      ∧ ∃ regs : Vector Byte 32,
        exec (.des k) s = .next { s with regs := regs, pc := s.pcAfter 1 }
          ∧ (State.block { s with regs := regs } 0, State.block { s with regs := regs } 8)
              = desRound (s.block 0) (s.block 8) k (s.flag .h)
          ∧ ∀ j : Reg, 16 ≤ j.val → State.reg { s with regs := regs } j = s.reg j

/-- R188 (a): DES 0 to DES 15 in order, with nothing between them that writes R0 to R15 or H, leave in R7:R0 the DES
encryption (H = 0) or decryption (H = 1) of the block first there under the key first in R15:R8, whatever the intermediate
states are; and decryption undoes encryption under every key. The algorithm's tables are the standard's (log 12). -/
def Obligations.DesSixteenRounds : Prop :=
  (∀ s : State, ∃ t : State, execAll ((List.finRange 16).map Instr.des) s = .next t
      ∧ t.block 0 = desBlock (s.flag .h) (s.block 8) (s.block 0)
      ∧ (∀ j : Reg, 16 ≤ j.val → t.reg j = s.reg j) ∧ t.sreg = s.sreg)
    ∧ ∀ key data : BitVec 64, desBlock true key (desBlock false key data) = data

/-! ### Branches, calls, skips -/

/-- R202 to R205: RJMP, IJMP, EIJMP and JMP complete in every state and change the pc alone: to pc + k + 1, to Z, to
EIND[5:0] : Z, to k, each modulo 2^`PC_BITS`. -/
def Obligations.Jumps : Prop :=
  ∀ (k : BitVec 12) (l : BitVec 22) (s : State),
    (exec (.rjmp k) s = .next { s with pc := s.pcRel k.toInt } ∧ encode (.rjmp k) = [boxRel12 0 k])
      ∧ (exec .ijmp s = .next { s with pc := BitVec.ofNat 22 (s.pairNat 30 % 2 ^ s.cfg.pcBits) }
        ∧ encode .ijmp = [0x9409#16])
      ∧ (exec .eijmp s = .next { s with
            pc := BitVec.ofNat 22 ((s.eind.toNat % 64 * 65536 + s.pairNat 30) % 2 ^ s.cfg.pcBits) }
        ∧ encode .eijmp = [0x9419#16])
      ∧ (exec (.jmp l) s = .next { s with pc := BitVec.ofNat 22 (l.toNat % 2 ^ s.cfg.pcBits) }
        ∧ encode (.jmp l) = [boxAbs22 0 l, l.setWidth 16])

/-- R220 to R239: BRBS, BRBC and the eighteen named branches complete in every state: the pc goes to pc + k + 1 when
the SREG bit is as the rule asks, else one on; nothing else changes. -/
def Obligations.ConditionalBranches : Prop :=
  ∀ (b : BitNum) (k : BitVec 7) (s : State),
    (exec (.brbs b k) s = .next (s.branched (s.sreg.getLsbD b.val) k) ∧ encode (.brbs b k) = [boxBr7 0 b k])
      ∧ (exec (.brbc b k) s = .next (s.branched (!s.sreg.getLsbD b.val) k) ∧ encode (.brbc b k) = [boxBr7 1 b k])
      ∧ (exec (.breq k) s = .next (s.branched (s.sreg.getLsbD 1) k) ∧ encode (.breq k) = [boxBr7 0 1 k])
      ∧ (exec (.brne k) s = .next (s.branched (!s.sreg.getLsbD 1) k) ∧ encode (.brne k) = [boxBr7 1 1 k])
      ∧ (exec (.brcs k) s = .next (s.branched (s.sreg.getLsbD 0) k) ∧ encode (.brcs k) = [boxBr7 0 0 k])
      ∧ (exec (.brcc k) s = .next (s.branched (!s.sreg.getLsbD 0) k) ∧ encode (.brcc k) = [boxBr7 1 0 k])
      ∧ (exec (.brsh k) s = .next (s.branched (!s.sreg.getLsbD 0) k) ∧ encode (.brsh k) = [boxBr7 1 0 k])
      ∧ (exec (.brlo k) s = .next (s.branched (s.sreg.getLsbD 0) k) ∧ encode (.brlo k) = [boxBr7 0 0 k])
      ∧ (exec (.brmi k) s = .next (s.branched (s.sreg.getLsbD 2) k) ∧ encode (.brmi k) = [boxBr7 0 2 k])
      ∧ (exec (.brpl k) s = .next (s.branched (!s.sreg.getLsbD 2) k) ∧ encode (.brpl k) = [boxBr7 1 2 k])
      ∧ (exec (.brge k) s = .next (s.branched (!s.sreg.getLsbD 4) k) ∧ encode (.brge k) = [boxBr7 1 4 k])
      ∧ (exec (.brlt k) s = .next (s.branched (s.sreg.getLsbD 4) k) ∧ encode (.brlt k) = [boxBr7 0 4 k])
      ∧ (exec (.brhs k) s = .next (s.branched (s.sreg.getLsbD 5) k) ∧ encode (.brhs k) = [boxBr7 0 5 k])
      ∧ (exec (.brhc k) s = .next (s.branched (!s.sreg.getLsbD 5) k) ∧ encode (.brhc k) = [boxBr7 1 5 k])
      ∧ (exec (.brts k) s = .next (s.branched (s.sreg.getLsbD 6) k) ∧ encode (.brts k) = [boxBr7 0 6 k])
      ∧ (exec (.brtc k) s = .next (s.branched (!s.sreg.getLsbD 6) k) ∧ encode (.brtc k) = [boxBr7 1 6 k])
      ∧ (exec (.brvs k) s = .next (s.branched (s.sreg.getLsbD 3) k) ∧ encode (.brvs k) = [boxBr7 0 3 k])
      ∧ (exec (.brvc k) s = .next (s.branched (!s.sreg.getLsbD 3) k) ∧ encode (.brvc k) = [boxBr7 1 3 k])
      ∧ (exec (.brie k) s = .next (s.branched (s.sreg.getLsbD 7) k) ∧ encode (.brie k) = [boxBr7 0 7 k])
      ∧ (exec (.brid k) s = .next (s.branched (!s.sreg.getLsbD 7) k) ∧ encode (.brid k) = [boxBr7 1 7 k])

/-- R240: after CP Rd,Rr from any state, each named branch is taken exactly when the comparison of its row holds between
Rd and Rr, read as signed or unsigned numbers. The rows with swapped operands are the same clauses with d and r exchanged. -/
def Obligations.CompareThenBranch : Prop :=
  ∀ (d r : Reg) (k : BitVec 7) (s t : State), exec (.cp d r) s = .next t →
    let u := ((s.reg d).toNat, (s.reg r).toNat)
    let i := ((s.reg d).toInt, (s.reg r).toInt)
    exec (.breq k) t = .next (t.branched (decide (u.1 = u.2)) k)
      ∧ exec (.brne k) t = .next (t.branched (decide (u.1 ≠ u.2)) k)
      ∧ exec (.brsh k) t = .next (t.branched (decide (u.2 ≤ u.1)) k)
      ∧ exec (.brcc k) t = .next (t.branched (decide (u.2 ≤ u.1)) k)
      ∧ exec (.brlo k) t = .next (t.branched (decide (u.1 < u.2)) k)
      ∧ exec (.brcs k) t = .next (t.branched (decide (u.1 < u.2)) k)
      ∧ exec (.brge k) t = .next (t.branched (decide (i.2 ≤ i.1)) k)
      ∧ exec (.brlt k) t = .next (t.branched (decide (i.1 < i.2)) k)

/-- R206 to R209 with R76: RCALL, ICALL, EICALL and CALL complete wherever the `PC_BYTES` bytes to be pushed lie in SRAM:
the address of the next instruction is there, low byte at SP, SP is `PC_BYTES` down, the pc is the target, and nothing else
changes. Where the stack lies elsewhere they end as the pushes end. The byte order is the spec's decision (log 23). -/
def Obligations.Calls : Prop :=
  ∀ (k : BitVec 12) (l : BitVec 22) (s : State),
    let ret (n : Nat) := (s.pc.toNat + n) % 2 ^ s.cfg.pcBits
    let rel := (((s.pc.toNat : Int) + k.toInt + 1) % 2 ^ s.cfg.pcBits).toNat
    let wide := s.eind.toNat % 64 * 65536 + s.pairNat 30
    (s.stackRoom s.cfg.pcBytes →
        exec (.rcall k) s = .next (s.called (ret 1) rel)
          ∧ exec .icall s = .next (s.called (ret 1) (s.pairNat 30))
          ∧ exec .eicall s = .next (s.called (ret 1) wide)
          ∧ exec (.call l) s = .next (s.called (ret 2) l.toNat))
      ∧ (∀ t, pushPc s (ret 1) = .next t →
          exec (.rcall k) s = .next (t.setPc rel) ∧ exec .icall s = .next (t.setPc (s.pairNat 30))
            ∧ exec .eicall s = .next (t.setPc wide))
      ∧ (∀ t, pushPc s (ret 2) = .next t → exec (.call l) s = .next (t.setPc l.toNat))
      ∧ encode (.rcall k) = [boxRel12 1 k] ∧ encode .icall = [0x9509#16] ∧ encode .eicall = [0x9519#16]
      ∧ encode (.call l) = [boxAbs22 1 l, l.setWidth 16]

/-- R210, R211 with R76: RET and RETI complete wherever the `PC_BYTES` bytes to be popped stand in SRAM: the pc is the
address in them modulo 2^`PC_BITS`, SP is `PC_BYTES` up; RETI also sets I and holds interrupts off for one instruction
(the spec's decision, log 24). Nothing else changes. Elsewhere they end as the pops end. -/
def Obligations.Returns : Prop :=
  ∀ (s : State) (b : Nat → Byte),
    let back := { s with
      sp := BitVec.ofNat 16 (s.stackUp s.cfg.pcBytes)
      pc := BitVec.ofNat 22 (poppedAddr s.cfg b % 2 ^ s.cfg.pcBits) }
    (s.stackHolds s.cfg.pcBytes b →
        exec .ret s = .next back
          ∧ exec .reti s = .next { back with sreg := withBit s.sreg 7 true, inhibit := true })
      ∧ (∀ a t, popPc s = .next (a, t) →
          exec .ret s = .next (t.setPc a)
            ∧ exec .reti s = .next { t.setPc a with sreg := withBit t.sreg 7 true, inhibit := true })
      ∧ encode .ret = [0x9508#16] ∧ encode .reti = [0x9518#16]

/-- R206, R210: a call with the stack in SRAM and then RET go back to the instruction after the call with SP as before
it, whichever call it is; SRAM holds the return address the call pushed and is otherwise as before, and nothing else but the pc has
changed. -/
def Obligations.CallThenReturn : Prop :=
  ∀ (s t : State) (k : BitVec 12) (l : BitVec 22) (i : Instr),
    i ∈ [.rcall k, .icall, .eicall, .call l] → s.cfg.wf = true → s.stackRoom s.cfg.pcBytes → exec i s = .next t →
      let n := if i = .call l then 2 else 1
      t.sram = s.pushedSram ((s.pc.toNat + n) % 2 ^ s.cfg.pcBits)
        ∧ exec .ret t = .next { s with sram := t.sram, pc := s.pcAfter n }

/-- R212, R216, R217 with R200: CPSE, SBRC and SBRS complete in every state in which they do not skip, and in every state in
which the next word is there to be measured: the pc is one, two or three words on, nothing else changes, and no flag is set.
The word skipped is not decoded. Where a skip is due and the program holds no word at pc + 1 they end in a fault: for an address
above FLASHEND that is R77, for a word the program does not hold the model's choice (log 7), and pc + 1 is not reduced (log 19). -/
def Obligations.RegisterSkips : Prop :=
  ∀ (d r : Reg) (b : BitNum) (s : State),
    (SkipOutcome (exec (.cpse d r) s) s (decide (s.reg d = s.reg r)) ∧ encode (.cpse d r) = [boxRR 0b000100#6 d r])
      ∧ (SkipOutcome (exec (.sbrc r b) s) s (!(s.reg r).getLsbD b.val) ∧ encode (.sbrc r b) = [boxRBit 0b10#2 r b])
      ∧ (SkipOutcome (exec (.sbrs r b) s) s ((s.reg r).getLsbD b.val) ∧ encode (.sbrs r b) = [boxRBit 0b11#2 r b])

/-- R218, R219 with R65: SBIC and SBIS read the whole I/O location and skip on its bit. Where the state determines the
byte they skip exactly as it says; at a location whose value no rule states they complete for some byte, one free value being
drawn (log 8). Where a skip is due and the program holds no word at pc + 1 they end in a fault, as the skips on registers do (log
7, log 19). -/
def Obligations.IoSkips : Prop :=
  ∀ (a : Fin 32) (b : BitNum) (s : State),
    (∀ v, peekIo s (lowIo a) = some v →
        SkipOutcome (exec (.sbic a b) s) s (!v.getLsbD b.val) ∧ SkipOutcome (exec (.sbis a b) s) s (v.getLsbD b.val))
      ∧ (peekIo s (lowIo a) = none → ∃ v : Byte,
        SkipOutcome (exec (.sbic a b) s) { s with free := s.free + 1 } (!v.getLsbD b.val)
          ∧ SkipOutcome (exec (.sbis a b) s) { s with free := s.free + 1 } (v.getLsbD b.val))
      ∧ encode (.sbic a b) = [boxIoBit 0b01#2 a b] ∧ encode (.sbis a b) = [boxIoBit 0b11#2 a b]


/-! ### Data transfer -/

/-- R64: what stands at a data-space address, the ranges tested in the order of the rule, and what a one-byte read and write do
there: a register, an I/O location, the Extended I/O memory, the window onto Program memory (a store into it is refused), SRAM,
or nothing (a fault). In the Extended I/O memory a storage location takes the byte and gives it back, a free value before any
write; any other location takes a write without effect and reads as a free value. The dispatch is the spec's decision; storage
and unstated reads are the model's (log 6, log 7, log 8). -/
def Obligations.DataSpaceDispatch : Prop :=
  ∀ (s : State) (a : Nat) (v : Byte),
    let c := s.cfg
    let file := c.regfileInData = true ∧ a ≤ 31
    let io := c.ioBase ≤ a ∧ a ≤ c.ioBase + 63
    let ext := c.extIoFirst ≤ a ∧ a ≤ c.extIoLast
    let window := fun b => ∃ f, c.flashDataBase = some f ∧ a = f + b ∧ b ≤ 2 * c.flashEnd + 1
    let sram := c.sramStart ≤ a ∧ a ≤ c.ramEnd
    (∀ d : Reg, file → a = d.val →
        memRead s a = .next (s.reg d, s) ∧ memWrite s a v = .next { s with regs := s.regs.set d.val v })
      ∧ (∀ i : Fin 64, ¬file → a = c.ioBase + i.val →
        memRead s a = .next (ioRead s i) ∧ memWrite s a v = .next (ioWrite s i v))
      ∧ (¬file → ¬io → ext → inSpans c.extStorage a = true →
        memWrite s a v = .next { s with extDev := s.extDev.write a v }
          ∧ memRead { s with extDev := s.extDev.write a v } a = .next (v, { s with extDev := s.extDev.write a v })
          ∧ (∀ w, s.extDev.read a = some w → memRead s a = .next (w, s))
          ∧ (s.extDev.read a = none → ∃ w, memRead s a = .next (w, { s with free := s.free + 1 })))
      ∧ (¬file → ¬io → ext → inSpans c.extStorage a = false →
        memWrite s a v = .next s ∧ ∃ w, memRead s a = .next (w, { s with free := s.free + 1 }))
      ∧ (∀ b, ¬file → ¬io → ¬ext → window b →
        memRead s a = (progByte s b).andThen (fun w => .next (w, s))
          ∧ memWrite s a v = .refused (.deviceDefined (.storeToFlash a)))
      ∧ (¬file → ¬io → ¬ext → (∀ b, ¬window b) → sram →
        (∀ w, s.sram.read a = some w → memRead s a = .next (w, s))
          ∧ (s.sram.read a = none → memRead s a = .fault (.unwritten a))
          ∧ memWrite s a v = .next { s with sram := s.sram.write a v })
      ∧ (¬file → ¬io → ¬ext → (∀ b, ¬window b) → ¬sram →
        memRead s a = .fault (.outOfRange .data a) ∧ memWrite s a v = .fault (.outOfRange .data a))

/-- R65 with R31, R33 and R408, on an admissible device: an I/O write at the address of a core register the device has replaces
exactly that register (the low or high half of SP, all of SREG, with the hold-off of `SREG_WRITE_HOLDOFF`), and an I/O read returns
it. At any other address a storage location takes the byte and gives it back, a free value before any write, no other location
changing; a location with no device behind it takes a write without effect and reads as a free value (log 8, log 22). -/
def Obligations.IoCoreRegisters : Prop :=
  ∀ (s : State) (a : Fin 64) (v : Byte), s.cfg.wf = true →
    let c := s.cfg
    (a.val = c.sregIo → ioRead s a = (s.sreg, s) ∧ ioWrite s a v = { s with
          sreg := v
          inhibit := s.inhibit || (c.sregWriteHoldoff && !s.sreg.getLsbD 7 && v.getLsbD 7) })
      ∧ (a.val = c.splIo → ioRead s a = (s.sp.extractLsb' 0 8, s)
          ∧ ioWrite s a v = { s with sp := s.sp.extractLsb' 8 8 ++ v })
      ∧ (c.spWidth = .sixteen → a.val = c.sphIo → ioRead s a = (s.sp.extractLsb' 8 8, s)
          ∧ ioWrite s a v = { s with sp := v ++ s.sp.extractLsb' 0 8 })
      ∧ (c.hasRampX = true → a.val = c.rampXIo → ioRead s a = (s.rampX, s) ∧ ioWrite s a v = { s with rampX := v })
      ∧ (c.hasRampY = true → a.val = c.rampYIo → ioRead s a = (s.rampY, s) ∧ ioWrite s a v = { s with rampY := v })
      ∧ (c.hasRampZ = true → a.val = c.rampZIo → ioRead s a = (s.rampZ, s) ∧ ioWrite s a v = { s with rampZ := v })
      ∧ (c.hasRampD = true → a.val = c.rampDIo → ioRead s a = (s.rampD, s) ∧ ioWrite s a v = { s with rampD := v })
      ∧ (c.hasEind = true → a.val = c.eindIo → ioRead s a = (s.eind, s) ∧ ioWrite s a v = { s with eind := v })
      ∧ (a.val ∉ c.coreIoAddresses → inSpans c.ioStorage a.val = true →
        ioWrite s a v = { s with ioDev := s.ioDev.write a.val v }
          ∧ ioRead { s with ioDev := s.ioDev.write a.val v } a = (v, { s with ioDev := s.ioDev.write a.val v })
          ∧ (∀ w, s.ioDev.read a.val = some w → ioRead s a = (w, s))
          ∧ (s.ioDev.read a.val = none → ∃ w, ioRead s a = (w, { s with free := s.free + 1 })))
      ∧ (a.val ∉ c.coreIoAddresses → inSpans c.ioStorage a.val = false →
        ioWrite s a v = s ∧ ∃ w, ioRead s a = (w, { s with free := s.free + 1 }))

/-- R73: the value, the width and the update of a pointer in each `PTR_CLASS`: the low register alone, the pair, or the RAMP
register over the pair; on a `small` device the high register is untouched. -/
def Obligations.PointerTable : Prop :=
  ∀ (s : State) (p : Ptr) (n : Nat),
    let lo := match p with | .x => (26 : Reg) | .y => 28 | .z => 30
    let has := match p with | .x => s.cfg.hasRampX | .y => s.cfg.hasRampY | .z => s.cfg.hasRampZ
    let ramp := match p with | .x => s.rampX | .y => s.rampY | .z => s.rampZ
    let upper := BitVec.ofNat 8 (n / 65536)
    (s.cfg.ptrClass = .small →
        ptrGet s p = (s.reg lo).toNat ∧ ptrWidth s.cfg p = 8
          ∧ ptrSet s p n = { s with regs := s.regs.set lo.val (BitVec.ofNat 8 n) })
      ∧ (s.cfg.ptrClass = .normal ∨ (s.cfg.ptrClass = .extended ∧ has = false) →
        ptrGet s p = s.pairNat lo ∧ ptrWidth s.cfg p = 16 ∧ ptrSet s p n = { s with regs := pairRegs s.regs lo n })
      ∧ (s.cfg.ptrClass = .extended → has = true →
        ptrGet s p = ramp.toNat * 65536 + s.pairNat lo ∧ ptrWidth s.cfg p = 24
          ∧ ptrSet s p n = match p with
            | .x => { s with rampX := upper, regs := pairRegs s.regs lo n }
            | .y => { s with rampY := upper, regs := pairRegs s.regs lo n }
            | .z => { s with rampZ := upper, regs := pairRegs s.regs lo n })

/-- R264: the address of the 16-bit LDS and STS takes each value of 0x40 to 0xBF once, and its low four bits are those of the
field. -/
def Obligations.ShortAddressRange : Prop :=
  (∀ k : BitVec 7, 0x40 ≤ shortAddr k ∧ shortAddr k ≤ 0xBF ∧ shortAddr k % 16 = k.toNat % 16)
    ∧ (∀ n : Fin 128, ∃ k : BitVec 7, shortAddr k = 0x40 + n.val)
    ∧ shortAddr 0x00#7 = 0x80 ∧ shortAddr 0x10#7 = 0x40 ∧ shortAddr 0x20#7 = 0x90 ∧ shortAddr 0x40#7 = 0xA0

/-- R263 to R265, R268, R271, R272, R275: LDS (both forms) and the LD and LDD that leave the pointer alone: x[d] gets the byte at
the address of the rule, the pc moves past the instruction, and nothing else changes; in every place of the data space (log 6,
log 7, log 8). -/
def Obligations.PlainLoads : Prop :=
  ∀ (d : Reg) (k : BitVec 16) (f : BitVec 7) (q : Fin 64) (s : State),
    let to1 := fun (v : Byte) (t : State) => t.loaded d v 1
    let disp (p : Ptr) := (ptrGet s p + q.val) % 2 ^ ptrWidth s.cfg p
    (LoadOutcome (exec (.lds d k) s) s (if s.cfg.hasRampD then s.rampD.toNat * 65536 + k.toNat else k.toNat)
          (fun v t => t.loaded d v 2)
        ∧ encode (.lds d k) = [boxLdSt 0 0b0000#4 d, k])
      ∧ (LoadOutcome (exec (.lds16 d f) s) s (shortAddr f) to1 ∧ (16 ≤ d.val → encode (.lds16 d f) = [boxShort 0 d f]))
      ∧ (LoadOutcome (exec (.ldX d) s) s (ptrGet s .x) to1 ∧ encode (.ldX d) = [boxLdSt 0 0b1100#4 d])
      ∧ (LoadOutcome (exec (.ldY d) s) s (ptrGet s .y) to1 ∧ encode (.ldY d) = [boxDisp 0 1 d 0])
      ∧ (LoadOutcome (exec (.ldZ d) s) s (ptrGet s .z) to1 ∧ encode (.ldZ d) = [boxDisp 0 0 d 0])
      ∧ (LoadOutcome (exec (.lddY d q) s) s (disp .y) to1 ∧ encode (.lddY d q) = [boxDisp 0 1 d q])
      ∧ (LoadOutcome (exec (.lddZ d q) s) s (disp .z) to1 ∧ encode (.lddZ d q) = [boxDisp 0 0 d q])

/-- R266, R267, R269, R270, R273, R274 with R251: the loads that move the pointer, with Rd not half of it: post-increment
reads at the old pointer and then adds 1 modulo 2^W, pre-decrement subtracts 1 modulo 2^W and reads there; in every place of the
data space, where a byte nothing has written, an unloaded Program memory byte and a device location are the model's choices (log 6,
log 7, log 8). -/
def Obligations.PointerLoads : Prop :=
  ∀ (d : Reg) (s : State) (p : Ptr), p.owns d = false →
    let inc := match p with | .x => Instr.ldXInc d | .y => .ldYInc d | .z => .ldZInc d
    let dec := match p with | .x => Instr.ldXDec d | .y => .ldYDec d | .z => .ldZDec d
    let a := ptrGet s p
    let w := 2 ^ ptrWidth s.cfg p
    LoadOutcome (exec inc s) s a (fun v t => (ptrSet (t.setReg d v) p ((a + 1) % w)).moved 1)
      ∧ LoadOutcome (exec dec s) (ptrSet s p ((a + w - 1) % w)) ((a + w - 1) % w) (fun v t => t.loaded d v 1)
      ∧ encode inc = [boxLdSt 0 (match p with | .x => 0b1101#4 | .y => 0b1001#4 | .z => 0b0001#4) d]
      ∧ encode dec = [boxLdSt 0 (match p with | .x => 0b1110#4 | .y => 0b1010#4 | .z => 0b0010#4) d]

/-- R276 to R278, R281, R284, R285, R288: STS (both forms) and the ST and STD that leave the pointer alone: the byte of Rr goes
to the address of the rule, the pc moves past the instruction, and nothing else changes; in every place of the data space. A
store into the Program memory window is refused, and one where nothing is mapped faults (R64). What a store at a device location
does is the model's choice (log 8). -/
def Obligations.PlainStores : Prop :=
  ∀ (r : Reg) (k : BitVec 16) (f : BitVec 7) (q : Fin 64) (s : State),
    let v := s.reg r
    let next := fun (t : State) => t.moved 1
    let disp (p : Ptr) := (ptrGet s p + q.val) % 2 ^ ptrWidth s.cfg p
    (StoreOutcome (exec (.sts k r) s) s (if s.cfg.hasRampD then s.rampD.toNat * 65536 + k.toNat else k.toNat) v
          (fun t => t.moved 2)
        ∧ encode (.sts k r) = [boxLdSt 1 0b0000#4 r, k])
      ∧ (StoreOutcome (exec (.sts16 f r) s) s (shortAddr f) v next ∧ (16 ≤ r.val → encode (.sts16 f r) = [boxShort 1 r f]))
      ∧ (StoreOutcome (exec (.stX r) s) s (ptrGet s .x) v next ∧ encode (.stX r) = [boxLdSt 1 0b1100#4 r])
      ∧ (StoreOutcome (exec (.stY r) s) s (ptrGet s .y) v next ∧ encode (.stY r) = [boxDisp 1 1 r 0])
      ∧ (StoreOutcome (exec (.stZ r) s) s (ptrGet s .z) v next ∧ encode (.stZ r) = [boxDisp 1 0 r 0])
      ∧ (StoreOutcome (exec (.stdY q r) s) s (disp .y) v next ∧ encode (.stdY q r) = [boxDisp 1 1 r q])
      ∧ (StoreOutcome (exec (.stdZ q r) s) s (disp .z) v next ∧ encode (.stdZ q r) = [boxDisp 1 0 r q])

/-- R279, R280, R282, R283, R286, R287 with R251: the stores that move the pointer, with Rr not half of it: post-increment
stores at the old pointer and then adds 1 modulo 2^W, pre-decrement subtracts 1 modulo 2^W and stores there. Where the address
is, through the Register File's place in the data space, one of the pointer's own two registers, they end in the fault named for
it (R67, the spec's decision D13). What a store at a device location does is the model's choice (log 8). -/
def Obligations.PointerStores : Prop :=
  ∀ (r : Reg) (s : State) (p : Ptr), p.owns r = false →
    let inc := match p with | .x => Instr.stXInc r | .y => .stYInc r | .z => .stZInc r
    let dec := match p with | .x => Instr.stXDec r | .y => .stYDec r | .z => .stZDec r
    let own (a : Nat) := s.cfg.regfileInData = true ∧ (a = p.lo.val ∨ a = p.lo.val + 1)
    let a := ptrGet s p
    let w := 2 ^ ptrWidth s.cfg p
    let below := (a + w - 1) % w
    (¬own a → StoreOutcome (exec inc s) s a (s.reg r) (fun t => (ptrSet t p ((a + 1) % w)).moved 1))
      ∧ (¬own below →
        StoreOutcome (exec dec s) (ptrSet s p below) below (s.reg r) (fun t => t.moved 1))
      ∧ (own a → exec inc s = .fault (.undefinedUse (.storeOntoPointer p a)))
      ∧ (own below → exec dec s = .fault (.undefinedUse (.storeOntoPointer p below)))
      ∧ encode inc = [boxLdSt 1 (match p with | .x => 0b1101#4 | .y => 0b1001#4 | .z => 0b0001#4) r]
      ∧ encode dec = [boxLdSt 1 (match p with | .x => 0b1110#4 | .y => 0b1010#4 | .z => 0b0010#4) r]

/-- R252: each of the twenty-four combinations of a post-increment or pre-decrement load or store with a data register that
is half of its own pointer ends in the fault named for it, in every state and every `PTR_CLASS`. -/
def Obligations.UndefinedCombinations : Prop :=
  ∀ s : State,
    (∀ d : Reg, d = 26 ∨ d = 27 →
        exec (.ldXInc d) s = .fault (.undefinedUse (.pointerLoad .x d))
          ∧ exec (.ldXDec d) s = .fault (.undefinedUse (.pointerLoad .x d))
          ∧ exec (.stXInc d) s = .fault (.undefinedUse (.pointerStore .x d))
          ∧ exec (.stXDec d) s = .fault (.undefinedUse (.pointerStore .x d)))
      ∧ (∀ d : Reg, d = 28 ∨ d = 29 →
        exec (.ldYInc d) s = .fault (.undefinedUse (.pointerLoad .y d))
          ∧ exec (.ldYDec d) s = .fault (.undefinedUse (.pointerLoad .y d))
          ∧ exec (.stYInc d) s = .fault (.undefinedUse (.pointerStore .y d))
          ∧ exec (.stYDec d) s = .fault (.undefinedUse (.pointerStore .y d)))
      ∧ (∀ d : Reg, d = 30 ∨ d = 31 →
        exec (.ldZInc d) s = .fault (.undefinedUse (.pointerLoad .z d))
          ∧ exec (.ldZDec d) s = .fault (.undefinedUse (.pointerLoad .z d))
          ∧ exec (.stZInc d) s = .fault (.undefinedUse (.pointerStore .z d))
          ∧ exec (.stZDec d) s = .fault (.undefinedUse (.pointerStore .z d)))

/-- R64, R78: the frame of a store. A store that goes on leaves every other byte of the data space as it was, and reads back the
byte stored in the Register File and in SRAM. ST, STD, STS and PUSH at the address their rules compute likewise leave every other
byte of the data space as it was, a PUSH but for the locations of SP itself. -/
def Obligations.StoreFrame : Prop :=
  (∀ (s t : State) (a : Nat) (v : Byte), memWrite s a v = .next t →
      (∀ b, b ≠ a → peek t b = peek s b)
        ∧ ((∃ d, dataPlace s.cfg a = .register d) ∨ dataPlace s.cfg a = .sram → peek t a = some v))
    ∧ (∀ (s t : State) (r : Reg) (k : BitVec 16) (f : BitVec 7) (q : Fin 64) (i : Instr) (a : Nat),
      (i, a) ∈ [(.sts k r, directAddr s k), (.sts16 f r, shortAddr f), (.stX r, ptrGet s .x), (.stY r, ptrGet s .y),
        (.stZ r, ptrGet s .z), (.stdY q r, ptrDisp s .y q), (.stdZ q r, ptrDisp s .z q), (.push r, s.sp.toNat)] →
      exec i s = .next t →
      ∀ b, b ≠ a → (i = .push r → (∀ j, dataPlace s.cfg b = .io j → ioTarget s.cfg j ≠ .spl ∧ ioTarget s.cfg j ≠ .sph)) →
        peek t b = peek s b)

/-- R289, R290, R408: IN completes in every state: x[d] gets the byte at the I/O location, or some byte with one free value drawn
where no rule states it (log 8). OUT completes in every state: the location is written with x[r]; on SREG it replaces all eight
flags, and the hold-off is set exactly when it was set or the device holds off and I goes from 0 to 1 (`SREG_WRITE_HOLDOFF`, log
22). The pc is one on and nothing else changes. -/
def Obligations.InOut : Prop :=
  ∀ (d r : Reg) (a : Fin 64) (s : State),
    (∀ v, peekIo s a = some v → exec (.ioIn d a) s = .next (s.loaded d v 1))
      ∧ (peekIo s a = none → ∃ v, exec (.ioIn d a) s = .next (State.loaded { s with free := s.free + 1 } d v 1))
      ∧ exec (.ioOut a r) s = .next ((ioWrite s a (s.reg r)).moved 1)
      ∧ (a.val = s.cfg.sregIo →
        exec (.ioOut a r) s = .next { s with
          sreg := s.reg r
          inhibit := s.inhibit || (s.cfg.sregWriteHoldoff && !s.sreg.getLsbD 7 && (s.reg r).getLsbD 7)
          pc := s.pcAfter 1 })
      ∧ encode (.ioIn d a) = [boxIO 0 d a] ∧ encode (.ioOut a r) = [boxIO 1 r a]

/-- R291, R292 with R75: PUSH stores x[r] at SP and then takes 1 from SP; POP adds 1 to SP and loads x[d] from there; SP is
modulo 2^`SP_BITS`; wherever in the data space SP points, where unwritten SRAM, unloaded Program memory and device locations are
the model's choices (log 6, log 7, log 8). PUSH then POP with the stack in SRAM: the second register gets the byte, SP is as before,
the byte stands in SRAM where SP points, and nothing else but the pc has changed. -/
def Obligations.PushPop : Prop :=
  ∀ (d r : Reg) (s : State), s.sp.toNat < s.cfg.spModulus →
    let up := { s with sp := BitVec.ofNat 16 (s.stackUp 1) }
    StoreOutcome (exec (.push r) s) s s.sp.toNat (s.reg r)
        (fun t => State.moved { t with sp := BitVec.ofNat 16 ((t.sp.toNat + t.cfg.spModulus - 1) % t.cfg.spModulus) } 1)
      ∧ LoadOutcome (exec (.pop d) s) up (s.stackUp 1) (fun v t => t.loaded d v 1)
      ∧ (s.stackRoom 1 → execAll [.push r, .pop d] s
        = .next { s with sram := s.sram.write s.sp.toNat (s.reg r), regs := s.regs.set d.val (s.reg r), pc := (s.moved 1).pcAfter 1 })
      ∧ encode (.push r) = [boxLdSt 1 0b1111#4 r] ∧ encode (.pop d) = [boxLdSt 0 0b1111#4 d]

/-! ### Program memory -/

/-- R320 to R325: the six LPM and ELPM forms: x[d] (R0 without operand) gets the Program memory byte at Z, or at RAMPZ : Z, and
nothing else changes but the pc and, in the Z+ forms, Z by 1 or all 24 bits of RAMPZ : Z by 1; above 2 × FLASHEND + 1 they end in
the fault of R77. The Z+ forms into R30 and R31 end in the fault named for them. -/
def Obligations.ProgramLoads : Prop :=
  ∀ (d : Reg) (s : State) (v : Byte),
    let out (e : Reg) (b : Nat) (r : Res State) : Prop :=
      (b ≤ 2 * s.cfg.flashEnd + 1 → s.flash.read b = some v → r = .next (s.loaded e v 1))
        ∧ (2 * s.cfg.flashEnd + 1 < b → r = .fault (.outOfRange .program b))
    let z := s.pairNat 30
    let rz := s.rampZ.toNat * 65536 + s.pairNat 30
    (out 0 z (exec .lpmR0 s) ∧ encode .lpmR0 = [0x95C8#16])
      ∧ (out d z (exec (.lpmZ d) s) ∧ encode (.lpmZ d) = [boxLdSt 0 0b0100#4 d])
      ∧ (out 0 rz (exec .elpmR0 s) ∧ encode .elpmR0 = [0x95D8#16])
      ∧ (out d rz (exec (.elpmZ d) s) ∧ encode (.elpmZ d) = [boxLdSt 0 0b0110#4 d])
      ∧ (d ≠ 30 → d ≠ 31 → z ≤ 2 * s.cfg.flashEnd + 1 → s.flash.read z = some v →
        exec (.lpmZInc d) s = .next { s with
          regs := pairRegs (s.regs.set d.val v) 30 ((z + 1) % 65536), pc := s.pcAfter 1 })
      ∧ (d ≠ 30 → d ≠ 31 → rz ≤ 2 * s.cfg.flashEnd + 1 → s.flash.read rz = some v →
        exec (.elpmZInc d) s = .next { s with
          rampZ := BitVec.ofNat 8 ((rz + 1) % 16777216 / 65536)
          regs := pairRegs (s.regs.set d.val v) 30 ((rz + 1) % 65536), pc := s.pcAfter 1 })
      ∧ (d ≠ 30 → d ≠ 31 → 2 * s.cfg.flashEnd + 1 < z → exec (.lpmZInc d) s = .fault (.outOfRange .program z))
      ∧ (d ≠ 30 → d ≠ 31 → 2 * s.cfg.flashEnd + 1 < rz → exec (.elpmZInc d) s = .fault (.outOfRange .program rz))
      ∧ (d = 30 ∨ d = 31 →
        exec (.lpmZInc d) s = .fault (.undefinedUse (.lpmPointer d))
          ∧ exec (.elpmZInc d) s = .fault (.undefinedUse (.elpmPointer d)))
      ∧ encode (.lpmZInc d) = [boxLdSt 0 0b0101#4 d] ∧ encode (.elpmZInc d) = [boxLdSt 0 0b0111#4 d]

/-- R330 (a), (c), (d), (e): LPM from b and from b xor 1 gets the two halves of the word the fetch reads there, the low half
from the even address; with RAMPZ = 0, LPM and ELPM load the same; none of LPM, ELPM, SPM changes SREG or SP. -/
def Obligations.ProgramMemoryLaws : Prop :=
  (∀ (s t u : State) (w : Word16), s.pairNat 30 % 2 = 0 → wordAt s (s.pairNat 30 / 2) = some w →
      exec .lpmR0 s = .next t → exec .lpmR0 { s with regs := pairRegs s.regs 30 (s.pairNat 30 + 1) } = .next u →
      u.reg 0 ++ t.reg 0 = w)
    ∧ (∀ (s : State) (d : Reg), s.rampZ = 0#8 → exec .elpmR0 s = exec .lpmR0 s ∧ exec (.elpmZ d) s = exec (.lpmZ d) s)
    ∧ (∀ (s t : State) (d : Reg) (i : Instr),
      i ∈ [.lpmR0, .lpmZ d, .lpmZInc d, .elpmR0, .elpmZ d, .elpmZInc d, .spm, .spmZInc] → exec i s = .next t →
      t.sreg = s.sreg ∧ t.sp = s.sp)

/-- R330 (b) with R322: LPM Rd,Z+ executed 2n times from an even Z, with n words in Program memory from there on and the last below
byte address 65536, goes on every time, leaves Z advanced by 2n modulo 65536, and each pair of loads reads one word, low byte
first. -/
def Obligations.TableRead : Prop :=
  ∀ (n : Nat) (d : Reg) (s : State), d ≠ 30 → d ≠ 31 → s.pairNat 30 % 2 = 0 → s.pairNat 30 + 2 * n ≤ 65536 →
    (∀ j < n, (wordAt s (s.pairNat 30 / 2 + j)).isSome) →
    ∃ t, execAll (List.replicate (2 * n) (.lpmZInc d)) s = .next t ∧ t.pairNat 30 = (s.pairNat 30 + 2 * n) % 65536
      ∧ ∀ m < n, ∃ lo hi : State,
        execAll (List.replicate (2 * m + 1) (.lpmZInc d)) s = .next lo
          ∧ execAll (List.replicate (2 * m + 2) (.lpmZInc d)) s = .next hi
          ∧ some (hi.reg d ++ lo.reg d) = wordAt s (s.pairNat 30 / 2 + m)

/-- R326 to R328: SPM and SPM Z+ at an even byte address complete in every state and change Program memory, the page buffer and
the lock bits only, as the operation the device has selected says (a free value, log 10), besides the pc and, for SPM Z+, Z
by 2; with bit 0 of the address set they are refused by name (R71). -/
def Obligations.SelfProgramming : Prop :=
  ∀ s : State,
    let b := if s.cfg.hasRampZ then s.rampZ.toNat * 65536 + s.pairNat 30 else s.pairNat 30
    (b % 2 = 0 → ∃ op : SpmOp, ∃ t : State, t = spmEffect s op b (s.pair 0)
        ∧ exec .spm s = .next { t with pc := s.pcAfter 1 }
        ∧ exec .spmZInc s
            = .next { t with regs := pairRegs s.regs 30 ((s.pairNat 30 + 2) % 65536), pc := s.pcAfter 1 })
      ∧ (b % 2 = 1 → exec .spm s = .refused (.deviceDefined (.spmOddAddress b))
        ∧ exec .spmZInc s = .refused (.deviceDefined (.spmOddAddress b)))
      ∧ encode .spm = [0x95E8#16] ∧ encode .spmZInc = [0x95F8#16]

/-- R328, its table, for a byte address the device has and SPM pages of the model's size (log 10): erase makes every word of
the page 0xFFFF, a word write makes the addressed word the data and changes nothing else, a buffer fill changes one buffer word
alone, a page write of an erased page puts each filled buffer word down, lock bits change alone; every word outside the page or the
word is kept, and Program memory, buffer, lock bits and the count of free values are all that changes. After an erase or a page
write no buffer word holds a known value (the model's choice, log 10). -/
def Obligations.SpmOperations : Prop :=
  ∀ (s : State) (op : SpmOp) (b : Nat) (w : Word16), s.cfg.wf = true → b / 2 ≤ s.cfg.flashEnd →
    let t := spmEffect s op b w
    let page := b / 2 / s.cfg.spmPageWords * s.cfg.spmPageWords
    let inPage (a : Nat) := page ≤ a ∧ a < page + s.cfg.spmPageWords ∧ a ≤ s.cfg.flashEnd
    t = { s with flash := t.flash, pageBuf := t.pageBuf, bootLock := t.bootLock, free := s.free + 1 }
      ∧ (op = .pageErase → ∀ a, t.flash.readWord a = if inPage a then some 0xFFFF#16 else s.flash.readWord a)
      ∧ (op = .wordWrite → ∀ a, t.flash.readWord a = if a = b / 2 then some w else s.flash.readWord a)
      ∧ (op = .wordWrite → t.pageBuf = s.pageBuf)
      ∧ (op = .pageErase ∨ op = .pageWrite → ∀ j, t.pageBuf.readWord j = none)
      ∧ (op = .bufferFill → t.flash = s.flash
        ∧ ∀ j, t.pageBuf.readWord j = if j = b / 2 % s.cfg.spmPageWords then some w else s.pageBuf.readWord j)
      ∧ (op = .pageWrite →
        (∀ a, ¬inPage a → t.flash.readWord a = s.flash.readWord a)
          ∧ ((∀ a, inPage a → s.flash.readWord a = some 0xFFFF#16) →
            ∀ a x, inPage a → s.pageBuf.readWord (a - page) = some x → t.flash.readWord a = some x))
      ∧ (op = .lockBits → t.flash = s.flash ∧ t.pageBuf = s.pageBuf ∧ t.bootLock = w)
      ∧ (op ≠ .lockBits → t.bootLock = s.bootLock)
      ∧ (op = .noOperation → t.flash = s.flash ∧ t.pageBuf = s.pageBuf)

/-- R81: no instruction but SPM changes Program memory, and neither does anything else a step does. -/
def Obligations.OnlySpmWritesProgram : Prop :=
  (∀ (i : Instr) (s t : State), exec i s = .next t → i ≠ .spm → i ≠ .spmZInc → t.flash = s.flash)
    ∧ (∀ s t : State, step s = .next t →
      (∀ u : State, s.beginStep = .execute u → fetchInstr u ≠ .next .spm ∧ fetchInstr u ≠ .next .spmZInc) →
      t.flash = s.flash)

/-! ### Bits -/

/-- R342, R344, R345, R346 with R340: LSR, ROR, ASR and SWAP complete in every state. LSR halves the byte, ROR brings C in at
the top, ASR halves the signed byte rounding down; C gets the bit shifted out, V = N ⊕ C, S = N ⊕ V; H, T, I and all else are
kept. SWAP exchanges the nibbles and sets no flag. -/
def Obligations.RightShifts : Prop :=
  ∀ (d : Reg) (s : State),
    let a := s.reg d
    let out (v : Byte) : Res State :=
      let c := a.getLsbD 0
      let n := v.getLsbD 7
      .next (s.computed d v (setSVNZC s.sreg (n ^^ c) n (v == 0#8) c))
    (exec (.lsr d) s = out (BitVec.ofNat 8 (a.toNat / 2)) ∧ encode (.lsr d) = [boxR1 0b0110#4 d])
      ∧ (exec (.ror d) s = out (BitVec.ofNat 8 (a.toNat / 2 + 128 * s.carryNat)) ∧ encode (.ror d) = [boxR1 0b0111#4 d])
      ∧ (exec (.asr d) s = out (BitVec.ofInt 8 (a.toInt / 2)) ∧ encode (.asr d) = [boxR1 0b0101#4 d])
      ∧ (exec (.swap d) s = .next (s.loaded d (BitVec.ofNat 8 (a.toNat % 16 * 16 + a.toNat / 16)) 1)
        ∧ encode (.swap d) = [boxR1 0b0010#4 d])

/-- R347, R348, R353 to R368: BSET, BCLR and the sixteen named flag instructions complete in every state, set or clear the one
flag and no other, and change nothing else but the pc; setting I also holds interrupts off for one instruction, clearing it
does not. -/
def Obligations.FlagInstructions : Prop :=
  ∀ (b : BitNum) (s : State),
    (exec (.bset b) s = .next (s.flagged b true) ∧ encode (.bset b) = [boxSregBit 0 b])
      ∧ (exec .sec s = .next (s.flagged 0 true) ∧ encode .sec = [0x9408#16])
      ∧ (exec .sez s = .next (s.flagged 1 true) ∧ encode .sez = [0x9418#16])
      ∧ (exec .sen s = .next (s.flagged 2 true) ∧ encode .sen = [0x9428#16])
      ∧ (exec .sev s = .next (s.flagged 3 true) ∧ encode .sev = [0x9438#16])
      ∧ (exec .ses s = .next (s.flagged 4 true) ∧ encode .ses = [0x9448#16])
      ∧ (exec .seh s = .next (s.flagged 5 true) ∧ encode .seh = [0x9458#16])
      ∧ (exec .setT s = .next (s.flagged 6 true) ∧ encode .setT = [0x9468#16])
      ∧ (exec .sei s = .next (s.flagged 7 true) ∧ encode .sei = [0x9478#16])
      ∧ (∀ j : BitNum, (s.flagged b true).sreg.getLsbD j.val = (j == b || s.sreg.getLsbD j.val))
      ∧ (exec (.bclr b) s = .next (s.flagged b false) ∧ encode (.bclr b) = [boxSregBit 1 b])
      ∧ (exec .clc s = .next (s.flagged 0 false) ∧ encode .clc = [0x9488#16])
      ∧ (exec .clz s = .next (s.flagged 1 false) ∧ encode .clz = [0x9498#16])
      ∧ (exec .cln s = .next (s.flagged 2 false) ∧ encode .cln = [0x94A8#16])
      ∧ (exec .clv s = .next (s.flagged 3 false) ∧ encode .clv = [0x94B8#16])
      ∧ (exec .cls s = .next (s.flagged 4 false) ∧ encode .cls = [0x94C8#16])
      ∧ (exec .clh s = .next (s.flagged 5 false) ∧ encode .clh = [0x94D8#16])
      ∧ (exec .clt s = .next (s.flagged 6 false) ∧ encode .clt = [0x94E8#16])
      ∧ (exec .cli s = .next (s.flagged 7 false) ∧ encode .cli = [0x94F8#16])
      ∧ (∀ j : BitNum, (s.flagged b false).sreg.getLsbD j.val = (j != b && s.sreg.getLsbD j.val))
      ∧ (s.flagged b false).inhibit = s.inhibit

/-- R351, R352: BST puts bit b of x[d] into T and changes no other flag and no register; BLD puts T into bit b of x[d] and
changes no other bit and no flag. -/
def Obligations.BitTransfers : Prop :=
  ∀ (d : Reg) (b : BitNum) (s : State),
    (∃ f : Byte, exec (.bst d b) s = .next { s with sreg := f, pc := s.pcAfter 1 }
        ∧ ∀ j : BitNum, f.getLsbD j.val = if j = 6 then (s.reg d).getLsbD b.val else s.sreg.getLsbD j.val)
      ∧ (∃ v : Byte, exec (.bld d b) s = .next (s.loaded d v 1)
        ∧ ∀ j : BitNum, v.getLsbD j.val = if j = b then s.sreg.getLsbD 6 else (s.reg d).getLsbD j.val)
      ∧ encode (.bst d b) = [boxRBit 0b01#2 d b] ∧ encode (.bld d b) = [boxRBit 0b00#2 d b]

/-- R349, R350 with R65: SBI and CBI complete in every state. Where the state determines the byte at the location, it is written
back with bit b set or cleared and the other seven kept; at storage that has not been written the seven are some byte's; a
location with no device behind it shows no effect on the core (log 8). -/
def Obligations.IoBits : Prop :=
  ∀ (a : Fin 32) (b : BitNum) (s : State),
    let out (r : Res State) (on : Bool) : Prop :=
      (∀ v, peekIo s (lowIo a) = some v →
          ∃ x : Byte, (∀ j : BitNum, x.getLsbD j.val = if j = b then on else v.getLsbD j.val)
            ∧ r = .next ((ioWrite s (lowIo a) x).moved 1))
        ∧ (peekIo s (lowIo a) = none → ioTarget s.cfg (lowIo a) = .storage →
          ∃ x : Byte, x.getLsbD b.val = on ∧ r = .next ((ioWrite { s with free := s.free + 1 } (lowIo a) x).moved 1))
        ∧ (ioTarget s.cfg (lowIo a) = .device → r = .next (s.moved 1))
    out (exec (.sbi a b) s) true ∧ out (exec (.cbi a b) s) false
      ∧ encode (.sbi a b) = [boxIoBit 0b10#2 a b] ∧ encode (.cbi a b) = [boxIoBit 0b00#2 a b]

/-- R369 (a) to (f), the spec's own consequences: shifting there and back; V and S after the shifts; the two-byte shifts; a flag
set and cleared; a bit carried through T. -/
def Obligations.BitLaws : Prop :=
  (∀ (d : Reg) (s t : State), execAll [.lsl d, .lsr d] s = .next t → t.reg d = s.reg d &&& 0x7F#8)
    ∧ (∀ (d : Reg) (s t : State), execAll [.lsr d, .lsl d] s = .next t → t.reg d = s.reg d &&& 0xFE#8)
    ∧ (∀ (d : Reg) (s t : State) (i : Instr), i ∈ [.lsr d, .ror d, .asr d, .lsl d, .rol d] → exec i s = .next t →
      t.flag .v = (t.flag .n ^^ t.flag .c) ∧ t.flag .s = t.flag .c
        ∧ (i ∈ [.lsl d, .rol d] → t.flag .h = (s.reg d).getLsbD 3))
    ∧ (∀ (l h : Reg) (s t : State), l ≠ h → execAll [.lsl l, .rol h] s = .next t →
      65536 * t.carryNat + ((t.reg h).toNat * 256 + (t.reg l).toNat) = 2 * ((s.reg h).toNat * 256 + (s.reg l).toNat))
    ∧ (∀ (l h : Reg) (s t : State), l ≠ h → execAll [.lsr h, .ror l] s = .next t →
      2 * ((t.reg h).toNat * 256 + (t.reg l).toNat) + t.carryNat = (s.reg h).toNat * 256 + (s.reg l).toNat)
    ∧ (∀ (l h : Reg) (s t : State), l ≠ h → execAll [.asr h, .ror l] s = .next t →
      2 * ((t.reg h).toInt * 256 + (t.reg l).toNat) + t.carryNat = (s.reg h).toInt * 256 + (s.reg l).toNat)
    ∧ (∀ (b : BitNum) (s t : State), execAll [.bset b, .bclr b] s = .next t → t.sreg = s.sreg &&& ~~~(1#8 <<< b.val))
    ∧ (∀ (r d : Reg) (b c : BitNum) (s t : State), execAll [.bst r b, .bld d c] s = .next t →
      (t.reg d).getLsbD c.val = (s.reg r).getLsbD b.val
        ∧ (∀ j : BitNum, j ≠ c → (t.reg d).getLsbD j.val = (s.reg d).getLsbD j.val)
        ∧ (∀ e : Reg, e ≠ d → t.reg e = s.reg e) ∧ (∀ j : BitNum, j ≠ 6 → t.sreg.getLsbD j.val = s.sreg.getLsbD j.val)
        ∧ t = { s with regs := t.regs, sreg := t.sreg, pc := (s.moved 1).pcAfter 1 })

/-! ### MCU control -/

/-- R390 to R393: NOP and WDR complete in every state and move the pc alone; BREAK does the same, or stops the core past
itself where on-chip debugging is enabled; SLEEP does the same, and sleeps where the device has sleep enabled. No flag, no
register and no memory changes. -/
def Obligations.McuControl : Prop :=
  ∀ s : State,
    (exec .nop s = .next (s.moved 1) ∧ encode .nop = [0x0000#16])
      ∧ (exec .wdr s = .next (s.moved 1) ∧ encode .wdr = [0x95A8#16])
      ∧ (exec .brk s = .next { s with pc := s.pcAfter 1, run := if s.cfg.ocdEnabled then .stopped else s.run }
        ∧ encode .brk = [0x9598#16])
      ∧ (exec .sleep s = .next { s with pc := s.pcAfter 1, run := if s.sleepEnabled then .sleeping else s.run }
        ∧ encode .sleep = [0x9588#16])

/-! ### The machine -/

/-- R11, R62, R122: when nothing comes from outside before the step, no interrupt is due and the core is awake, and the words at the pc
decode to a well-formed instruction i, the step is exec of i on the state with the hold-off cleared and i remembered for the clock
count of DES. -/
def Obligations.StepRunsDecoded : Prop :=
  ∀ (s : State) (w w2 : Word16) (i : Instr), s.quiet → s.runsNext → i.wf = true →
    decode s.cfg w w2 = .instr i → wordAt s s.pc.toNat = some w →
    (isTwoWord w = true → wordAt s (s.pc.toNat + 1) = some w2) →
    step s = exec i { s with
      inputs := s.inputs.tail
      inhibit := false
      prevDes := match i with | .des _ => true | _ => false }

/-- R405, R406, R76: with I set, no hold-off and the core not stopped, the first entry of VECTORS whose request is pending is
taken instead of an instruction: the pc is pushed, I cleared, the core awake, the pc at the entry's address, the request
dropped where the device drops it; nothing else changes. The sequence is the spec's own (log 14, log 24). -/
def Obligations.InterruptEntry : Prop :=
  ∀ (s : State) (v : VectorEntry) (before after : List VectorEntry),
    s.quiet → s.run ≠ .stopped → s.sreg.getLsbD 7 = true → s.inhibit = false →
    s.cfg.vectors = before ++ v :: after → (∀ u ∈ before, u.num ∉ s.pending) → v.num ∈ s.pending →
    s.stackRoom s.cfg.pcBytes →
    step s = .next { s.called (s.pc.toNat % 2 ^ s.cfg.pcBits) v.addr with
      inputs := s.inputs.tail
      run := .running
      sreg := withBit s.sreg 7 false
      pending := if v.autoClear then s.pending.filter (fun n => n ≠ v.num) else s.pending }

/-- R405, R409: an interrupt taken with the stack in SRAM and then RETI, with nothing done between, resume at the pc of the
interrupted instruction with SP and all flags as before and I set; the hold-off lets one instruction of it run. -/
def Obligations.InterruptThenReturn : Prop :=
  ∀ (s t : State) (v : VectorEntry), s.cfg.wf = true → s.pc.toNat < 2 ^ s.cfg.pcBits →
    s.sreg.getLsbD 7 = true → s.stackRoom s.cfg.pcBytes → takeInterrupt s v = .next t →
    ∃ u : State, exec .reti t = .next u ∧ u.pc = s.pc ∧ u.sp = s.sp ∧ u.sreg = s.sreg ∧ u.regs = s.regs
      ∧ u.inhibit = true ∧ u.run = .running

/-- R407, R359, R211: after SEI, BSET 7 or RETI the next instruction is executed, whatever is pending, and the hold-off ends with
it: the instruction runs with the hold-off cleared. -/
def Obligations.EnableHoldsOff : Prop :=
  ∀ (s t : State) (i j : Instr), i = .sei ∨ i = .bset 7 ∨ i = .reti → s.run = .running → exec i s = .next t →
    t.quiet → fetchInstr t = .next j →
    t.sreg.getLsbD 7 = true
      ∧ step t = exec j { t with
        inputs := t.inputs.tail
        inhibit := false
        prevDes := match j with | .des _ => true | _ => false }

/-- R11, R43, R360, R405, R406, R424: when no interrupt is taken. CLI leaves I clear with no hold-off. With I clear a step is never
an interrupt entry, whatever is pending: the instruction runs. A stopped core does nothing; a sleeping one does nothing while I is
clear or nothing is pending. A run that has ended (stopped, asleep with I clear, at an RJMP to itself that no interrupt can leave)
stays so, whatever comes from outside but a reset: each step goes on, at the same pc, with the same registers, SREG, SP, SRAM and
Program memory. -/
def Obligations.NoInterrupt : Prop :=
  (∀ s : State, ∃ t, exec .cli s = .next t ∧ t.sreg.getLsbD 7 = false ∧ t.inhibit = s.inhibit)
    ∧ (∀ s : State, s.quiet →
      let u := { s with inputs := s.inputs.tail }
      (s.run = .running → s.sreg.getLsbD 7 = false →
          step s = (fetchInstr u).andThen fun i => exec i (State.noteInstr { u with inhibit := false } i))
        ∧ (s.run = .stopped → step s = .next u)
        ∧ (s.run = .sleeping → s.sreg.getLsbD 7 = false ∨ (∀ v ∈ s.cfg.vectors, v.num ∉ s.pending) → step s = .next u))
    ∧ (∀ s : State, s.wf = true → s.ended = true → Input.reset ∉ s.inputs.headD [] →
      ∃ t, step s = .next t ∧ t.ended = true ∧ t.run = s.run ∧ t.pc = s.pc ∧ t.regs = s.regs ∧ t.sreg = s.sreg ∧ t.sp = s.sp
        ∧ t.sram = s.sram ∧ t.flash = s.flash)

/-- R423, R47, R440: what the outside does before a step. A reset among its events, in any run state, puts the core into the reset
state of its device: the pc at the reset address, SREG, the RAMP registers and EIND 0, nothing held off, the core running; Program
memory, the lock bits and what is still to come from outside stay (log 5, log 26). What the general registers and SP hold is the
model's choice (log 3, log 4) and not stated here. Without a reset each event in turn changes just this before the step: a request
becomes pending, once; a withdrawn one is no longer; the answer of `SleepEnabled()` changes; a storage location of the I/O space or
of the Extended I/O memory changes, any other address being left alone (the model's events, log 13, log 14, log 15, log 35). -/
def Obligations.OutsideEvents : Prop :=
  (∀ (s : State) (e : List Input) (rest : List (List Input)), s.inputs = e :: rest → Input.reset ∈ e →
      step s = .next { resetState s.cfg with flash := s.flash, bootLock := s.bootLock, inputs := rest, free := s.free })
    ∧ (∀ c : Config, c.wf = true →
      let s := resetState c
      s.pc.toNat = c.resetAddr ∧ s.sreg = 0#8 ∧ s.rampX = 0#8 ∧ s.rampY = 0#8 ∧ s.rampZ = 0#8 ∧ s.rampD = 0#8
        ∧ s.eind = 0#8 ∧ s.inhibit = false ∧ s.run = .running ∧ s.cfg = c)
    ∧ State.reset.pc = 0#22
    ∧ (∀ (s : State) (e : List Input) (rest : List (List Input)) (n : Nat) (on : Bool) (i : Fin 64) (a : Nat) (v : Byte),
      Input.reset ∉ e →
      let after (t : State) : Res State := step { t with inputs := e :: rest }
      let first (x : Input) : Res State := step { s with inputs := (x :: e) :: rest }
      let plainIo := i.val ∉ s.cfg.coreIoAddresses ∧ inSpans s.cfg.ioStorage i.val = true
      let plainExt := dataPlace s.cfg a = .extIo ∧ inSpans s.cfg.extStorage a = true
      (n ∈ s.pending → first (.request n) = after s)
        ∧ (n ∉ s.pending → first (.request n) = after { s with pending := n :: s.pending })
        ∧ first (.withdraw n) = after { s with pending := s.pending.filter (fun m => m ≠ n) }
        ∧ first (.sleepEnable on) = after { s with sleepEnabled := on }
        ∧ (plainIo → first (.ioChange i v) = after { s with ioDev := s.ioDev.write i.val v })
        ∧ (¬plainIo → first (.ioChange i v) = after s)
        ∧ (plainExt → first (.extChange a v) = after { s with extDev := s.extDev.write a v })
        ∧ (¬plainExt → first (.extChange a v) = after s))

/-- The reset state of every admissible device satisfies the invariant, the machine's own reset state included. -/
def Obligations.ResetIsWf : Prop :=
  (∀ c : Config, c.wf = true → (resetState c).wf = true) ∧ State.reset.wf = true

/-- Every step that goes on keeps the invariant, from every state that satisfies it: an admissible device, the same one as before;
pc below 2^`PC_BITS` (R26); SP below 2^`SP_BITS` (R31); every memory in its canonical form; no request listed twice. -/
def Obligations.StepKeepsWf : Prop :=
  ∀ s t : State, s.wf = true → step s = .next t → t.wf = true ∧ t.cfg = s.cfg

/-- R411: I is changed only by SEI, CLI, BSET 7, BCLR 7, RETI and instructions that write an I/O or data address; no arithmetic,
logic, multiply, shift, compare, branch, skip, move, load or Program memory instruction touches it. The stores among
them change it only by writing SREG's own location. -/
def Obligations.WhoChangesI : Prop :=
  (∀ (i : Instr) (s t : State), exec i s = .next t → t.sreg.getLsbD 7 ≠ s.sreg.getLsbD 7 → Sys2Proof.Machine.Instr.mayWriteI i = true)
    ∧ (∀ (s t : State) (a : Nat) (v : Byte), memWrite s a v = .next t → t.sreg ≠ s.sreg →
      ∃ j : Fin 64, dataPlace s.cfg a = .io j ∧ j.val = s.cfg.sregIo)

/-! ### Encoding -/

/-- R128: an instruction that is another name for an encoding does, in every state, exactly what the instruction it names does, and
has the same words. -/
def Obligations.SameMeaning : Prop :=
  ∀ (i : Instr) (s : State), exec i s = exec i.canonical s ∧ (i.wf = true → encode i = encode i.canonical)

/-- Decode and encode agree: for every well-formed instruction the device has, with every operand at every value the encoding
admits, decoding its words gives it back (an alias as the core instruction it names, R128). -/
def Obligations.DecodeEncode : Prop :=
  ∀ (c : Config) (i : Instr) (w2 : Word16), i.wf = true → c.offers i.canonical = true → c.hasRegs i.canonical = true →
    decode c (BitVec.ofNat 16 (encodeFirst i)) ((encodeSecond i).getD w2) = .instr i.canonical

/-- Encode and decode agree: a word that decodes is, with its second word if it has one, the encoding of what it decodes to, and the
instruction is well-formed. R100, R101: an instruction has two words exactly when it is JMP, CALL or the LDS or STS with a 16-bit
address, and the test on the first word alone says so. -/
def Obligations.EncodeDecode : Prop :=
  (∀ (c : Config) (w w2 : Word16) (i : Instr), decode c w w2 = .instr i →
      i.wf = true ∧ i.canonical = i ∧ encode i = if isTwoWord w then [w, w2] else [w])
    ∧ (∀ i : Instr, i.wf = true →
      ((encode i).length = if isTwoWord (BitVec.ofNat 16 (encodeFirst i)) then 2 else 1)
        ∧ ((encode i).length = 2 ↔ ∃ d : Reg, ∃ k : BitVec 16, ∃ l : BitVec 22,
            i = .jmp l ∨ i = .call l ∨ i = .lds d k ∨ i = .sts k d))
    ∧ ∀ w : Word16, isTwoWord w = true ↔ (w &&& 0xFE0C#16 = 0x940C#16 ∨ w &&& 0xFC0F#16 = 0x9000#16)

/-- R125, R126: on a device that is not a reduced core, the first words no opcode box covers are exactly those of the list (a) to
(h); on a reduced core those of LDD and STD with q from 1 to 31 are reserved as well; and a step that fetches a word its device
gives no meaning ends in the fault named for it. -/
def Obligations.ReservedWords : Prop :=
  (∀ (c : Config) (w w2 : Word16), c.reducedCore = false →
      let hi (n : Nat) := w.toNat / 2 ^ n
      let lo := w.toNat % 16
      let mid := w.toNat / 16 % 16
      (decode c w w2 = .rejected .noRow ↔
        (hi 8 = 0x00 ∧ w ≠ 0#16)
          ∨ (hi 9 = 0x48 ∧ lo ∈ [3, 8, 11])
          ∨ (hi 9 = 0x49 ∧ lo ∈ [3, 4, 5, 6, 7, 8, 11])
          ∨ (hi 9 = 0x4A ∧ lo = 4)
          ∨ (hi 8 = 0x95 ∧ lo = 8 ∧ mid ∈ [2, 3, 4, 5, 6, 7, 11])
          ∨ (hi 9 = 0x4A ∧ lo = 9 ∧ w ∉ [0x9409#16, 0x9419#16, 0x9509#16, 0x9519#16])
          ∨ (hi 8 = 0x95 ∧ lo = 11)
          ∨ (hi 11 = 0x1F ∧ 8 ≤ lo)))
    ∧ (∀ (c : Config) (w w2 : Word16), c.reducedCore = true → w.toNat / 4096 = 8 →
      (w.toNat / 1024 % 4 ≠ 0 ∨ w.toNat % 8 ≠ 0) → ∃ why, decode c w w2 = .rejected why)
    ∧ (∀ (s : State) (w : Word16) (why : Rejection), s.quiet → s.runsNext → wordAt s s.pc.toNat = some w →
      decode s.cfg w 0#16 = .rejected why → step s = .fault (.reservedOpcode w))

/-- R24, R125, R129, R253: on a reduced core the words 1010 are the 16-bit LDS and STS, no instruction whose fields name R0 to R15
decodes, and no LDD or STD with a displacement but 0 (log 34); on any device LDD and STD with another displacement decode only
where `AVAILABLE` has their row; on a device that is no reduced core the 16-bit forms never decode. -/
def Obligations.ReducedCoreDecoding : Prop :=
  ∀ (c : Config) (w w2 : Word16) (i : Instr), decode c w w2 = .instr i →
    (c.reducedCore = true →
        (∀ d ∈ i.namedRegs, 16 ≤ d.val)
          ∧ (w.toNat / 4096 = 10 → ∃ d k, i = .lds16 d k ∨ i = .sts16 k d)
          ∧ (∀ (d : Reg) (q : Fin 64), i = .lddY d q ∨ i = .lddZ d q ∨ i = .stdY q d ∨ i = .stdZ q d → q = 0))
      ∧ (∀ (d : Reg) (q : Fin 64), q ≠ 0 →
        (i = .lddY d q → .lddY ∈ c.available) ∧ (i = .lddZ d q → .lddZ ∈ c.available)
          ∧ (i = .stdY q d → .stdY ∈ c.available) ∧ (i = .stdZ q d → .stdZ ∈ c.available))
      ∧ (c.reducedCore = false → ∀ d k, i ≠ .lds16 d k ∧ i ≠ .sts16 k d)

/-- A few words of the manual's own examples, one or more of each family, decode to the instruction they are written for. -/
def Obligations.ExampleWords : Prop :=
  let is (w w2 : Nat) (i : Instr) : Prop := decode resetDevice (BitVec.ofNat 16 w) (BitVec.ofNat 16 w2) = .instr i
  is 0x0C12 0 (.add 1 2) ∧ is 0x9601 0 (.adiw 24 1) ∧ is 0x701F 0 (.andi 17 0x0F) ∧ is 0x9C54 0 (.mul 5 4)
    ∧ is 0x94FB 0 (.des 15) ∧ is 0xCFFF 0 (.rjmp 0xFFF) ∧ is 0x95FD 0xFFFF (.jmp 0x3FFFFF)
    ∧ is 0x940E 0x0400 (.call 0x000400) ∧ is 0xF429 0 (.brbc 1 5) ∧ is 0xFE07 0 (.sbrs 0 7) ∧ is 0x9020 0x0123 (.lds 2 0x0123)
    ∧ is 0x9220 0x0123 (.sts 0x0123 2) ∧ is 0x804A 0 (.lddY 4 2) ∧ is 0x9105 0 (.lpmZInc 16) ∧ is 0xB60F 0 (.ioIn 0 0x3F)
    ∧ is 0x92EF 0 (.push 14) ∧ is 0x9406 0 (.lsr 0) ∧ is 0x9478 0 (.bset 7) ∧ is 0x9897 0 (.cbi 0x12 7) ∧ is 0x9588 0 .sleep
end

