-- ==== Sys2Proof/Laws/Decode.lean ====
section
/-! SUPPORT. The encoder's arithmetic on each format and the opcode box of the format are the same word. -/
namespace Sys2Proof.Machine

/-- Concatenation as arithmetic. -/
theorem toNat_append_add {m n : Nat} (x : BitVec m) (y : BitVec n) : (x ++ y).toNat = x.toNat * 2 ^ n + y.toNat := by
  rw [BitVec.toNat_append, ← Nat.shiftLeft_add_eq_or_of_lt y.isLt, Nat.shiftLeft_eq]

theorem toNat_extract {n : Nat} (x : BitVec n) (lo len : Nat) :
    (x.extractLsb' lo len).toNat = x.toNat / 2 ^ lo % 2 ^ len := by
  simp [BitVec.extractLsb'_toNat, Nat.shiftRight_eq_div_pow]

theorem eq_ofNat_of_toNat {n : Nat} {x : BitVec n} {v : Nat} (h : x.toNat = v) : x = BitVec.ofNat n v := by
  rw [← h]; simp

@[simp] theorem regBits_toNat (d : Reg) : (regBits d).toNat = d.val := by
  simp only [regBits, BitVec.toNat_ofNat]; omega

theorem boxRR_eq (op : BitVec 6) (d r : Reg) : boxRR op d r = BitVec.ofNat 16 (encRR op.toNat d r) := by
  apply eq_ofNat_of_toNat
  simp only [boxRR, encRR, regBits_toNat, toNat_append_add, toNat_extract,
    Nat.reducePow, Nat.div_one]
  have : r.val / 16 % 2 = r.val / 16 := by omega
  omega

theorem boxRI_eq (op : BitVec 4) (d : Reg) (k : BitVec 8) (h : 16 ≤ d.val) :
    boxRI op d k = BitVec.ofNat 16 (encRI op.toNat d k) := by
  apply eq_ofNat_of_toNat
  simp only [boxRI, encRI, regBits_toNat, toNat_append_add, toNat_extract,
    Nat.reducePow, Nat.div_one]
  have : k.toNat / 16 % 16 = k.toNat / 16 := by omega
  have : d.val % 16 = d.val - 16 := by omega
  omega

theorem boxR1_eq (op : BitVec 4) (d : Reg) : boxR1 op d = BitVec.ofNat 16 (encR1 op.toNat d) := by
  apply eq_ofNat_of_toNat
  simp only [boxR1, encR1, regBits_toNat, toNat_append_add, BitVec.toNat_ofNat, Nat.reducePow]
  omega

theorem boxLdSt_eq (s : BitVec 1) (m : BitVec 4) (d : Reg) :
    boxLdSt s m d = BitVec.ofNat 16 (encLdSt s.toNat m.toNat d) := by
  apply eq_ofNat_of_toNat
  simp only [boxLdSt, encLdSt, regBits_toNat, toNat_append_add, BitVec.toNat_ofNat, Nat.reducePow]
  omega

theorem boxDisp_eq (s y : BitVec 1) (d : Reg) (q : Fin 64) :
    boxDisp s y d q = BitVec.ofNat 16 (encDisp s.toNat y.toNat d q) := by
  apply eq_ofNat_of_toNat
  simp only [boxDisp, encDisp, regBits_toNat, toNat_append_add, toNat_extract, BitVec.toNat_ofNat,
    Nat.reducePow, Nat.div_one]
  have : q.val / 32 % 2 = q.val / 32 := by omega
  omega

theorem boxShort_eq (s : BitVec 1) (d : Reg) (k : BitVec 7) (h : 16 ≤ d.val) :
    boxShort s d k = BitVec.ofNat 16 (encShort s.toNat d k) := by
  apply eq_ofNat_of_toNat
  simp only [boxShort, encShort, regBits_toNat, toNat_append_add, toNat_extract, BitVec.toNat_ofNat,
    Nat.reducePow, Nat.div_one]
  have : k.toNat / 16 % 8 = k.toNat / 16 := by omega
  have : d.val % 16 = d.val - 16 := by omega
  omega

theorem boxIW_eq (o : BitVec 1) (d : Reg) (k : Fin 64) (h : 24 ≤ d.val) (he : d.val % 2 = 0) :
    boxIW o d k = BitVec.ofNat 16 (encIW o.toNat d k) := by
  apply eq_ofNat_of_toNat
  simp only [boxIW, encIW, regBits_toNat, toNat_append_add, toNat_extract, BitVec.toNat_ofNat,
    Nat.reducePow, Nat.div_one]
  have : k.val / 16 % 4 = k.val / 16 := by omega
  have : d.val / 2 % 4 = (d.val - 24) / 2 := by omega
  omega

theorem boxIO_eq (s : BitVec 1) (d : Reg) (a : Fin 64) : boxIO s d a = BitVec.ofNat 16 (encIO s.toNat d a) := by
  apply eq_ofNat_of_toNat
  simp only [boxIO, encIO, regBits_toNat, toNat_append_add, toNat_extract, BitVec.toNat_ofNat,
    Nat.reducePow, Nat.div_one]
  have : a.val / 16 % 4 = a.val / 16 := by omega
  omega

theorem boxIoBit_eq (o : BitVec 2) (a : Fin 32) (b : BitNum) :
    boxIoBit o a b = BitVec.ofNat 16 (encIoBit o.toNat a b) := by
  apply eq_ofNat_of_toNat
  simp only [boxIoBit, encIoBit, toNat_append_add, BitVec.toNat_ofNat, Nat.reducePow]
  omega

theorem boxBr7_eq (o : BitVec 1) (s : BitNum) (k : BitVec 7) :
    boxBr7 o s k = BitVec.ofNat 16 (encBr o.toNat s k) := by
  apply eq_ofNat_of_toNat
  simp only [boxBr7, encBr, toNat_append_add, BitVec.toNat_ofNat, Nat.reducePow]
  omega

theorem boxRel12_eq (o : BitVec 1) (k : BitVec 12) :
    boxRel12 o k = BitVec.ofNat 16 (0xC000 + o.toNat * 4096 + k.toNat) := by
  apply eq_ofNat_of_toNat
  simp only [boxRel12, toNat_append_add, BitVec.toNat_ofNat, Nat.reducePow]
  omega

theorem boxRBit_eq (o : BitVec 2) (d : Reg) (b : BitNum) :
    boxRBit o d b = BitVec.ofNat 16 (encRBit o.toNat d b) := by
  apply eq_ofNat_of_toNat
  simp only [boxRBit, encRBit, regBits_toNat, toNat_append_add, BitVec.toNat_ofNat, Nat.reducePow]
  omega

theorem boxSregBit_eq (o : BitVec 1) (s : BitNum) : boxSregBit o s = BitVec.ofNat 16 (encSreg o.toNat s) := by
  apply eq_ofNat_of_toNat
  simp only [boxSregBit, encSreg, toNat_append_add, BitVec.toNat_ofNat, Nat.reducePow]
  omega

theorem boxAbs22_eq (o : BitVec 1) (k : BitVec 22) : boxAbs22 o k = BitVec.ofNat 16 (encAbs o.toNat k) := by
  apply eq_ofNat_of_toNat
  simp only [boxAbs22, encAbs, toNat_append_add, toNat_extract, BitVec.toNat_ofNat,
    Nat.reducePow]
  have : k.toNat / 131072 % 32 = k.toNat / 131072 := by omega
  omega

theorem boxMovw_eq (d r : Reg) : boxMovw d r = BitVec.ofNat 16 (0x0100 + d.val / 2 * 16 + r.val / 2) := by
  apply eq_ofNat_of_toNat
  simp only [boxMovw, regBits_toNat, toNat_append_add, toNat_extract, BitVec.toNat_ofNat,
    Nat.reducePow]
  have : d.val / 2 % 16 = d.val / 2 := by omega
  have : r.val / 2 % 16 = r.val / 2 := by omega
  omega

theorem boxMuls_eq (d r : Reg) (hd : 16 ≤ d.val) (hr : 16 ≤ r.val) :
    boxMuls d r = BitVec.ofNat 16 (0x0200 + (d.val - 16) * 16 + (r.val - 16)) := by
  apply eq_ofNat_of_toNat
  simp only [boxMuls, regBits_toNat, toNat_append_add, toNat_extract, BitVec.toNat_ofNat,
    Nat.reducePow, Nat.div_one]
  have : d.val % 16 = d.val - 16 := by omega
  have : r.val % 16 = r.val - 16 := by omega
  omega

theorem boxMul3_eq (o7 o3 : BitVec 1) (d r : Reg) (hd : 16 ≤ d.val) (hd' : d.val ≤ 23) (hr : 16 ≤ r.val)
    (hr' : r.val ≤ 23) : boxMul3 o7 o3 d r = BitVec.ofNat 16 (encMul3 o7.toNat o3.toNat d r) := by
  apply eq_ofNat_of_toNat
  simp only [boxMul3, encMul3, regBits_toNat, toNat_append_add, toNat_extract, BitVec.toNat_ofNat,
    Nat.reducePow, Nat.div_one]
  have : d.val % 8 = d.val - 16 := by omega
  have : r.val % 8 = r.val - 16 := by omega
  omega

theorem boxDes_eq (k : Fin 16) : boxDes k = BitVec.ofNat 16 (0x940B + k.val * 16) := by
  apply eq_ofNat_of_toNat
  simp only [boxDes, toNat_append_add, BitVec.toNat_ofNat, Nat.reducePow]
  omega

end Sys2Proof.Machine
end

