-- ==== Sys2Proof/Laws/Des.lean ====
section
/-! SUPPORT. The laws of the DES rounds: the two permutations undo each other, the recoding between rounds is undone by
the next round, and what the registers hold after a DES instruction. -/
namespace Sys2Proof.Machine

/-- Bit `i` of a permuted block, counted from the most significant. -/
theorem desPermute_getMsbD {n m : Nat} (table : List Nat) (x : BitVec n) (i : Nat) (h : i < m) :
    (desPermute m table x).getMsbD i = x.getMsbD (table.getD i 1 - 1) := by
  unfold desPermute
  simp [BitVec.getMsbD_ofFnBE, h]

theorem desFP_of_desIP : ∀ j : Fin 64,
    desIP.getD j.val 1 - 1 < 64 ∧ desFP.getD (desIP.getD j.val 1 - 1) 1 - 1 = j.val := by decide

theorem desIP_of_desFP : ∀ j : Fin 64,
    desFP.getD j.val 1 - 1 < 64 ∧ desIP.getD (desFP.getD j.val 1 - 1) 1 - 1 = j.val := by decide

/-- The initial permutation after its inverse. -/
@[simp] theorem desIP_desFP (x : BitVec 64) : desPermute 64 desIP (desPermute 64 desFP x) = x := by
  apply BitVec.eq_of_getMsbD_eq
  intro i hi
  have h := desFP_of_desIP ⟨i, hi⟩
  rw [desPermute_getMsbD _ _ _ hi, desPermute_getMsbD _ _ _ h.1, h.2]

/-- The inverse initial permutation after the initial one. -/
@[simp] theorem desFP_desIP (x : BitVec 64) : desPermute 64 desFP (desPermute 64 desIP x) = x := by
  apply BitVec.eq_of_getMsbD_eq
  intro i hi
  have h := desIP_of_desFP ⟨i, hi⟩
  rw [desPermute_getMsbD _ _ _ hi, desPermute_getMsbD _ _ _ h.1, h.2]

@[simp] theorem desSplit_desJoin (x : BitVec 32 × BitVec 32) : desSplit (desJoin x) = x := by
  obtain ⟨a, b⟩ := x
  have ha := a.isLt
  have hb := b.isLt
  have h : (a ++ b).toNat = a.toNat * 2 ^ 32 + b.toNat := toNat_append_add a b
  simp only [desSplit, desJoin, desIP_desFP, Prod.mk.injEq]
  constructor
  · apply BitVec.eq_of_toNat_eq; rw [toNat_extract]; refine (congrArg (· / 2 ^ 32 % 2 ^ 32) h).trans ?_; omega
  · apply BitVec.eq_of_toNat_eq; rw [toNat_extract]; refine (congrArg (· / 2 ^ 0 % 2 ^ 32) h).trans ?_; omega

@[simp] theorem desJoin_desSplit (x : BitVec 64) : desJoin (desSplit x) = x := by
  unfold desSplit desJoin
  have h : ∀ y : BitVec 64, y.extractLsb' 32 32 ++ y.extractLsb' 0 32 = y := by
    intro y
    ext i hi
    simp only [BitVec.getElem_append, BitVec.getElem_extractLsb']
    split
    · rw [Nat.zero_add, BitVec.getLsbD_eq_getElem hi]
    · rw [show 32 + (i - 32) = i by omega, BitVec.getLsbD_eq_getElem hi]
  rw [h, desFP_desIP]

/-- What one round stores, the next one loads (spec/41_multiply_des.md R188 (b)). -/
theorem desLoad_desStore (h : Bool) (i : Fin 15) (x : BitVec 64 × BitVec 64) :
    desLoad h i.succ (desStore h i.castSucc x) = x := by
  unfold desLoad desStore
  rw [dif_neg (by simp), dif_pos (by simp)]
  simp

/-- A DES instruction writes registers and moves the pc, and changes nothing else. -/
theorem setBlocks_advance (s : State) (data key : BitVec 64) (n : Nat) :
    (s.setBlocks data key).advance n = { s with regs := (s.setBlocks data key).regs, pc := s.pcAfter n } := by
  unfold State.advance State.setPc State.setBlocks State.pcAfter
  rfl

/-- Every register after the two blocks are stored. -/
theorem setBlocks_reg (s : State) (data key : BitVec 64) (j : Reg) :
    (s.setBlocks data key).reg j
      = if j.val < 8 then blockByte data j.val else if j.val < 16 then blockByte key (j.val - 8) else s.reg j := by
  unfold State.reg State.setBlocks
  simp [State.reg]

/-- The eight bytes of a block, put together again. -/
theorem blockByte_append (v : BitVec 64) :
    blockByte v 7 ++ blockByte v 6 ++ blockByte v 5 ++ blockByte v 4 ++ blockByte v 3 ++ blockByte v 2
      ++ blockByte v 1 ++ blockByte v 0 = v := by
  apply BitVec.eq_of_toNat_eq
  simp only [blockByte, toNat_append_add, toNat_extract, Nat.reducePow, Nat.reduceMul]
  have := v.isLt
  omega

/-- The blocks that the registers hold after they are stored (R187). -/
theorem setBlocks_block (s : State) (data key : BitVec 64) :
    (s.setBlocks data key).block 0 = data ∧ (s.setBlocks data key).block 8 = key := by
  constructor
  · conv_rhs => rw [← blockByte_append data]
    unfold State.block
    simp only [setBlocks_reg]
    rfl
  · conv_rhs => rw [← blockByte_append key]
    unfold State.block
    simp only [setBlocks_reg]
    rfl

end Sys2Proof.Machine
end

