-- ==== Sys2Proof/Laws/Flags.lean ====
section
/-! SUPPORT. The bits of an SREG value put together from flags, and of a byte with one bit changed. -/
namespace Sys2Proof.Machine

/-- The eight bits of a packed SREG value, C first. -/
theorem packFlags_bits (i t h s v n z c : Bool) :
    (packFlags i t h s v n z c).getLsbD 0 = c ∧ (packFlags i t h s v n z c).getLsbD 1 = z
      ∧ (packFlags i t h s v n z c).getLsbD 2 = n ∧ (packFlags i t h s v n z c).getLsbD 3 = v
      ∧ (packFlags i t h s v n z c).getLsbD 4 = s ∧ (packFlags i t h s v n z c).getLsbD 5 = h
      ∧ (packFlags i t h s v n z c).getLsbD 6 = t ∧ (packFlags i t h s v n z c).getLsbD 7 = i := by
  cases i <;> cases t <;> cases h <;> cases s <;> cases v <;> cases n <;> cases z <;> cases c <;> decide

/-- A byte is the pack of its bits. -/
theorem packFlags_self (x : Byte) :
    packFlags (x.getLsbD 7) (x.getLsbD 6) (x.getLsbD 5) (x.getLsbD 4) (x.getLsbD 3) (x.getLsbD 2) (x.getLsbD 1)
      (x.getLsbD 0) = x := by
  revert x; decide

/-- Two bytes with the same eight bits are equal. -/
theorem byte_ext {x y : Byte} (h : ∀ j : BitNum, x.getLsbD j.val = y.getLsbD j.val) : x = y := by
  apply BitVec.eq_of_getLsbD_eq
  intro i hi
  exact h ⟨i, hi⟩

/-- A bit of a byte after one bit is changed. -/
@[simp] theorem withBit_getLsbD (x : Byte) (b j : BitNum) (on : Bool) :
    (withBit x b on).getLsbD j.val = if j = b then on else x.getLsbD j.val := by
  have h : (1#8 <<< b.val).getLsbD j.val = decide (j = b) := by revert b j; decide
  unfold withBit
  cases on
  · simp only [Bool.false_eq_true, if_false, BitVec.getLsbD_and, BitVec.getLsbD_not, j.isLt, decide_true, Bool.true_and,
      h]
    split <;> simp_all
  · simp only [if_true, BitVec.getLsbD_or, h]
    split <;> simp_all

/-- Adding bytes as numbers. -/
theorem ofNat_add_toNat (a b : Byte) : BitVec.ofNat 8 (a.toNat + b.toNat) = a + b := by
  apply BitVec.eq_of_toNat_eq; simp [BitVec.toNat_add]

end Sys2Proof.Machine
end

