-- ==== Sys2Proof/Laws/Memory.lean ====
section
/-! SUPPORT. The laws of sparse memory: a read after a write, and the canonical form, which every operation keeps. -/
namespace Sys2Proof.Machine

/-- A read after a write, whether or not the memory is canonical. -/
@[simp] theorem Memory.read_write (m : Memory) (a b : Nat) (v : Byte) :
    Memory.read (Memory.write m a v) b = if b = a then some v else Memory.read m b := by
  induction m with
  | nil => simp [Memory.read, Memory.write]
  | cons c m ih =>
    obtain ⟨k, w⟩ := c
    simp only [Memory.write]
    split
    · subst_vars; simp only [Memory.read]; split <;> simp_all
    · split
      · simp only [Memory.read]
      · simp only [Memory.read, ih]; split <;> simp_all [eq_comm]

/-- A read of the address just written. -/
theorem Memory.read_write_same (m : Memory) (a : Nat) (v : Byte) :
    Memory.read (Memory.write m a v) a = some v := by simp

/-- A read of any other address. -/
theorem Memory.read_write_other (m : Memory) {a b : Nat} (v : Byte) (h : b ≠ a) :
    Memory.read (Memory.write m a v) b = Memory.read m b := by simp [h]

theorem Memory.risesAbove_mono {a b : Nat} {m : Memory} (h : a ≤ b) (hm : Memory.risesAbove b m = true) :
    Memory.risesAbove a m = true := by
  cases m with
  | nil => rfl
  | cons c m => simp only [Memory.risesAbove, Bool.and_eq_true, decide_eq_true_eq] at *; exact ⟨by omega, hm.2⟩

theorem Memory.wf_of_risesAbove {a : Nat} {m : Memory} (h : Memory.risesAbove a m = true) : Memory.wf m = true := by
  cases m with
  | nil => rfl
  | cons c m => simp only [Memory.risesAbove, Bool.and_eq_true] at h; exact h.2

theorem Memory.risesAbove_write {k a : Nat} {m : Memory} (v : Byte) (h : k < a)
    (hm : Memory.risesAbove k m = true) : Memory.risesAbove k (Memory.write m a v) = true := by
  induction m generalizing k with
  | nil => simp [Memory.write, Memory.risesAbove, h]
  | cons c m ih =>
    obtain ⟨b, w⟩ := c
    simp only [Memory.risesAbove, Bool.and_eq_true, decide_eq_true_eq] at hm
    simp only [Memory.write]
    split
    · subst_vars; simp [Memory.risesAbove, hm.1, hm.2]
    · split
      · simp only [Memory.risesAbove, Bool.and_eq_true, decide_eq_true_eq]; exact ⟨h, ‹_›, hm.2⟩
      · simp only [Memory.risesAbove, Bool.and_eq_true, decide_eq_true_eq]
        exact ⟨hm.1, ih (by omega) hm.2⟩

/-- A write keeps the canonical form. -/
theorem Memory.write_wf {m : Memory} (a : Nat) (v : Byte) (hm : Memory.wf m = true) :
    Memory.wf (Memory.write m a v) = true := by
  cases m with
  | nil => rfl
  | cons c m =>
    obtain ⟨b, w⟩ := c
    simp only [Memory.wf] at hm
    simp only [Memory.write]
    split
    · subst_vars; exact hm
    · split
      · simp only [Memory.wf, Memory.risesAbove, Bool.and_eq_true, decide_eq_true_eq]; exact ⟨‹_›, hm⟩
      · exact Memory.risesAbove_write v (by omega) hm

/-- Writing several bytes keeps the canonical form. -/
theorem Memory.writeBytes_wf {m : Memory} (a : Nat) (vs : List Byte) (hm : Memory.wf m = true) :
    Memory.wf (Memory.writeBytes m a vs) = true := by
  induction vs generalizing m a with
  | nil => exact hm
  | cons v vs ih => exact ih _ (Memory.write_wf a v hm)

/-- Writing a word keeps the canonical form. -/
theorem Memory.writeWord_wf {m : Memory} (a : Nat) (w : Word16) (hm : Memory.wf m = true) :
    Memory.wf (Memory.writeWord m a w) = true :=
  Memory.write_wf _ _ (Memory.write_wf _ _ hm)

/-- Writing several words keeps the canonical form. -/
theorem Memory.writeWords_wf {m : Memory} (a : Nat) (f : Nat → Word16) (n : Nat) (hm : Memory.wf m = true) :
    Memory.wf (Memory.writeWords m a f n) = true := by
  induction n with
  | zero => exact hm
  | succ n ih => exact Memory.writeWord_wf _ _ ih

theorem word_of_halves (w : Word16) : ((w >>> 8).setWidth 8 : Byte) ++ (w.setWidth 8 : Byte) = w := by
  ext i hi
  simp only [BitVec.getElem_append, BitVec.getElem_setWidth, BitVec.getLsbD_ushiftRight]
  split
  · simp [hi]
  · rw [show 8 + (i - 8) = i by omega]; simp [hi]

/-- A word read after a word written. -/
@[simp] theorem Memory.readWord_writeWord (m : Memory) (a b : Nat) (w : Word16) :
    Memory.readWord (Memory.writeWord m a w) b = if b = a then some w else Memory.readWord m b := by
  unfold Memory.readWord Memory.writeWord
  by_cases h : b = a
  · subst h; simp [word_of_halves]
  · have h1 : 2 * b ≠ 2 * a := by omega
    have h2 : 2 * b ≠ 2 * a + 1 := by omega
    have h3 : 2 * b + 1 ≠ 2 * a := by omega
    have h4 : 2 * b + 1 ≠ 2 * a + 1 := by omega
    simp only [Memory.read_write, if_neg h1, if_neg h2, if_neg h3, if_neg h4, if_neg h]

/-- A word read after several words written. -/
theorem Memory.readWord_writeWords (m : Memory) (a b n : Nat) (f : Nat → Word16) :
    Memory.readWord (Memory.writeWords m a f n) b
      = if a ≤ b ∧ b < a + n then some (f (b - a)) else Memory.readWord m b := by
  induction n with
  | zero => simp only [Memory.writeWords]; rw [if_neg]; omega
  | succ n ih =>
    simp only [Memory.writeWords, Memory.readWord_writeWord, ih]
    split
    · subst_vars; rw [if_pos (by omega)]; congr 2; omega
    · by_cases h : a ≤ b ∧ b < a + n
      · rw [if_pos h, if_pos (by omega)]
      · rw [if_neg h, if_neg (by omega)]

/-- The memories of the reset state are canonical. -/
theorem State.reset_memories_wf :
    Memory.wf State.reset.flash = true ∧ Memory.wf State.reset.sram = true ∧ Memory.wf State.reset.ioDev = true
      ∧ Memory.wf State.reset.extDev = true ∧ Memory.wf State.reset.pageBuf = true := ⟨rfl, rfl, rfl, rfl, rfl⟩

end Sys2Proof.Machine
end

