-- ==== Sys2Proof/Laws/State.lean ====
section
/-! SUPPORT. What every update of the state leaves in every field, one lemma per update and field, true by rfl, so that
no later proof unfolds an update; and reading a register after writing one. -/
namespace Sys2Proof.Machine

variable (s : State)

@[simp] theorem State.setReg_cfg (d : Reg) (v : Byte) : (s.setReg d v).cfg = s.cfg := rfl
@[simp] theorem State.setReg_regs (d : Reg) (v : Byte) : (s.setReg d v).regs = s.regs.set d v := rfl
@[simp] theorem State.setReg_pc (d : Reg) (v : Byte) : (s.setReg d v).pc = s.pc := rfl
@[simp] theorem State.setReg_sreg (d : Reg) (v : Byte) : (s.setReg d v).sreg = s.sreg := rfl
@[simp] theorem State.setReg_sp (d : Reg) (v : Byte) : (s.setReg d v).sp = s.sp := rfl
@[simp] theorem State.setReg_rampX (d : Reg) (v : Byte) : (s.setReg d v).rampX = s.rampX := rfl
@[simp] theorem State.setReg_rampY (d : Reg) (v : Byte) : (s.setReg d v).rampY = s.rampY := rfl
@[simp] theorem State.setReg_rampZ (d : Reg) (v : Byte) : (s.setReg d v).rampZ = s.rampZ := rfl
@[simp] theorem State.setReg_rampD (d : Reg) (v : Byte) : (s.setReg d v).rampD = s.rampD := rfl
@[simp] theorem State.setReg_eind (d : Reg) (v : Byte) : (s.setReg d v).eind = s.eind := rfl
@[simp] theorem State.setReg_flash (d : Reg) (v : Byte) : (s.setReg d v).flash = s.flash := rfl
@[simp] theorem State.setReg_sram (d : Reg) (v : Byte) : (s.setReg d v).sram = s.sram := rfl
@[simp] theorem State.setReg_ioDev (d : Reg) (v : Byte) : (s.setReg d v).ioDev = s.ioDev := rfl
@[simp] theorem State.setReg_extDev (d : Reg) (v : Byte) : (s.setReg d v).extDev = s.extDev := rfl
@[simp] theorem State.setReg_pageBuf (d : Reg) (v : Byte) : (s.setReg d v).pageBuf = s.pageBuf := rfl
@[simp] theorem State.setReg_bootLock (d : Reg) (v : Byte) : (s.setReg d v).bootLock = s.bootLock := rfl
@[simp] theorem State.setReg_inhibit (d : Reg) (v : Byte) : (s.setReg d v).inhibit = s.inhibit := rfl
@[simp] theorem State.setReg_run (d : Reg) (v : Byte) : (s.setReg d v).run = s.run := rfl
@[simp] theorem State.setReg_prevDes (d : Reg) (v : Byte) : (s.setReg d v).prevDes = s.prevDes := rfl
@[simp] theorem State.setReg_pending (d : Reg) (v : Byte) : (s.setReg d v).pending = s.pending := rfl
@[simp] theorem State.setReg_sleepEnabled (d : Reg) (v : Byte) : (s.setReg d v).sleepEnabled = s.sleepEnabled := rfl
@[simp] theorem State.setReg_inputs (d : Reg) (v : Byte) : (s.setReg d v).inputs = s.inputs := rfl
@[simp] theorem State.setReg_free (d : Reg) (v : Byte) : (s.setReg d v).free = s.free := rfl

@[simp] theorem State.setPair_cfg (d : Reg) (v : Word16) : (s.setPair d v).cfg = s.cfg := rfl
@[simp] theorem State.setPair_pc (d : Reg) (v : Word16) : (s.setPair d v).pc = s.pc := rfl
@[simp] theorem State.setPair_sreg (d : Reg) (v : Word16) : (s.setPair d v).sreg = s.sreg := rfl
@[simp] theorem State.setPair_sp (d : Reg) (v : Word16) : (s.setPair d v).sp = s.sp := rfl
@[simp] theorem State.setPair_rampX (d : Reg) (v : Word16) : (s.setPair d v).rampX = s.rampX := rfl
@[simp] theorem State.setPair_rampY (d : Reg) (v : Word16) : (s.setPair d v).rampY = s.rampY := rfl
@[simp] theorem State.setPair_rampZ (d : Reg) (v : Word16) : (s.setPair d v).rampZ = s.rampZ := rfl
@[simp] theorem State.setPair_rampD (d : Reg) (v : Word16) : (s.setPair d v).rampD = s.rampD := rfl
@[simp] theorem State.setPair_eind (d : Reg) (v : Word16) : (s.setPair d v).eind = s.eind := rfl
@[simp] theorem State.setPair_flash (d : Reg) (v : Word16) : (s.setPair d v).flash = s.flash := rfl
@[simp] theorem State.setPair_sram (d : Reg) (v : Word16) : (s.setPair d v).sram = s.sram := rfl
@[simp] theorem State.setPair_ioDev (d : Reg) (v : Word16) : (s.setPair d v).ioDev = s.ioDev := rfl
@[simp] theorem State.setPair_extDev (d : Reg) (v : Word16) : (s.setPair d v).extDev = s.extDev := rfl
@[simp] theorem State.setPair_pageBuf (d : Reg) (v : Word16) : (s.setPair d v).pageBuf = s.pageBuf := rfl
@[simp] theorem State.setPair_bootLock (d : Reg) (v : Word16) : (s.setPair d v).bootLock = s.bootLock := rfl
@[simp] theorem State.setPair_inhibit (d : Reg) (v : Word16) : (s.setPair d v).inhibit = s.inhibit := rfl
@[simp] theorem State.setPair_run (d : Reg) (v : Word16) : (s.setPair d v).run = s.run := rfl
@[simp] theorem State.setPair_prevDes (d : Reg) (v : Word16) : (s.setPair d v).prevDes = s.prevDes := rfl
@[simp] theorem State.setPair_pending (d : Reg) (v : Word16) : (s.setPair d v).pending = s.pending := rfl
@[simp] theorem State.setPair_sleepEnabled (d : Reg) (v : Word16) : (s.setPair d v).sleepEnabled = s.sleepEnabled := rfl
@[simp] theorem State.setPair_inputs (d : Reg) (v : Word16) : (s.setPair d v).inputs = s.inputs := rfl
@[simp] theorem State.setPair_free (d : Reg) (v : Word16) : (s.setPair d v).free = s.free := rfl

@[simp] theorem State.setPc_cfg (n : Nat) : (s.setPc n).cfg = s.cfg := rfl
@[simp] theorem State.setPc_regs (n : Nat) : (s.setPc n).regs = s.regs := rfl
@[simp] theorem State.setPc_pc (n : Nat) : (s.setPc n).pc = BitVec.ofNat 22 (n % 2 ^ s.cfg.pcBits) := rfl
@[simp] theorem State.setPc_sreg (n : Nat) : (s.setPc n).sreg = s.sreg := rfl
@[simp] theorem State.setPc_sp (n : Nat) : (s.setPc n).sp = s.sp := rfl
@[simp] theorem State.setPc_rampX (n : Nat) : (s.setPc n).rampX = s.rampX := rfl
@[simp] theorem State.setPc_rampY (n : Nat) : (s.setPc n).rampY = s.rampY := rfl
@[simp] theorem State.setPc_rampZ (n : Nat) : (s.setPc n).rampZ = s.rampZ := rfl
@[simp] theorem State.setPc_rampD (n : Nat) : (s.setPc n).rampD = s.rampD := rfl
@[simp] theorem State.setPc_eind (n : Nat) : (s.setPc n).eind = s.eind := rfl
@[simp] theorem State.setPc_flash (n : Nat) : (s.setPc n).flash = s.flash := rfl
@[simp] theorem State.setPc_sram (n : Nat) : (s.setPc n).sram = s.sram := rfl
@[simp] theorem State.setPc_ioDev (n : Nat) : (s.setPc n).ioDev = s.ioDev := rfl
@[simp] theorem State.setPc_extDev (n : Nat) : (s.setPc n).extDev = s.extDev := rfl
@[simp] theorem State.setPc_pageBuf (n : Nat) : (s.setPc n).pageBuf = s.pageBuf := rfl
@[simp] theorem State.setPc_bootLock (n : Nat) : (s.setPc n).bootLock = s.bootLock := rfl
@[simp] theorem State.setPc_inhibit (n : Nat) : (s.setPc n).inhibit = s.inhibit := rfl
@[simp] theorem State.setPc_run (n : Nat) : (s.setPc n).run = s.run := rfl
@[simp] theorem State.setPc_prevDes (n : Nat) : (s.setPc n).prevDes = s.prevDes := rfl
@[simp] theorem State.setPc_pending (n : Nat) : (s.setPc n).pending = s.pending := rfl
@[simp] theorem State.setPc_sleepEnabled (n : Nat) : (s.setPc n).sleepEnabled = s.sleepEnabled := rfl
@[simp] theorem State.setPc_inputs (n : Nat) : (s.setPc n).inputs = s.inputs := rfl
@[simp] theorem State.setPc_free (n : Nat) : (s.setPc n).free = s.free := rfl

@[simp] theorem State.advance_cfg (n : Nat) : (s.advance n).cfg = s.cfg := rfl
@[simp] theorem State.advance_regs (n : Nat) : (s.advance n).regs = s.regs := rfl
@[simp] theorem State.advance_pc (n : Nat) : (s.advance n).pc = BitVec.ofNat 22 ((s.pc.toNat + n) % 2 ^ s.cfg.pcBits) := rfl
@[simp] theorem State.advance_sreg (n : Nat) : (s.advance n).sreg = s.sreg := rfl
@[simp] theorem State.advance_sp (n : Nat) : (s.advance n).sp = s.sp := rfl
@[simp] theorem State.advance_rampX (n : Nat) : (s.advance n).rampX = s.rampX := rfl
@[simp] theorem State.advance_rampY (n : Nat) : (s.advance n).rampY = s.rampY := rfl
@[simp] theorem State.advance_rampZ (n : Nat) : (s.advance n).rampZ = s.rampZ := rfl
@[simp] theorem State.advance_rampD (n : Nat) : (s.advance n).rampD = s.rampD := rfl
@[simp] theorem State.advance_eind (n : Nat) : (s.advance n).eind = s.eind := rfl
@[simp] theorem State.advance_flash (n : Nat) : (s.advance n).flash = s.flash := rfl
@[simp] theorem State.advance_sram (n : Nat) : (s.advance n).sram = s.sram := rfl
@[simp] theorem State.advance_ioDev (n : Nat) : (s.advance n).ioDev = s.ioDev := rfl
@[simp] theorem State.advance_extDev (n : Nat) : (s.advance n).extDev = s.extDev := rfl
@[simp] theorem State.advance_pageBuf (n : Nat) : (s.advance n).pageBuf = s.pageBuf := rfl
@[simp] theorem State.advance_bootLock (n : Nat) : (s.advance n).bootLock = s.bootLock := rfl
@[simp] theorem State.advance_inhibit (n : Nat) : (s.advance n).inhibit = s.inhibit := rfl
@[simp] theorem State.advance_run (n : Nat) : (s.advance n).run = s.run := rfl
@[simp] theorem State.advance_prevDes (n : Nat) : (s.advance n).prevDes = s.prevDes := rfl
@[simp] theorem State.advance_pending (n : Nat) : (s.advance n).pending = s.pending := rfl
@[simp] theorem State.advance_sleepEnabled (n : Nat) : (s.advance n).sleepEnabled = s.sleepEnabled := rfl
@[simp] theorem State.advance_inputs (n : Nat) : (s.advance n).inputs = s.inputs := rfl
@[simp] theorem State.advance_free (n : Nat) : (s.advance n).free = s.free := rfl

@[simp] theorem State.jumpRel_cfg (k : Int) : (s.jumpRel k).cfg = s.cfg := rfl
@[simp] theorem State.jumpRel_regs (k : Int) : (s.jumpRel k).regs = s.regs := rfl
@[simp] theorem State.jumpRel_pc (k : Int) : (s.jumpRel k).pc = BitVec.ofNat 22 (relTarget s k % 2 ^ s.cfg.pcBits) := rfl
@[simp] theorem State.jumpRel_sreg (k : Int) : (s.jumpRel k).sreg = s.sreg := rfl
@[simp] theorem State.jumpRel_sp (k : Int) : (s.jumpRel k).sp = s.sp := rfl
@[simp] theorem State.jumpRel_rampX (k : Int) : (s.jumpRel k).rampX = s.rampX := rfl
@[simp] theorem State.jumpRel_rampY (k : Int) : (s.jumpRel k).rampY = s.rampY := rfl
@[simp] theorem State.jumpRel_rampZ (k : Int) : (s.jumpRel k).rampZ = s.rampZ := rfl
@[simp] theorem State.jumpRel_rampD (k : Int) : (s.jumpRel k).rampD = s.rampD := rfl
@[simp] theorem State.jumpRel_eind (k : Int) : (s.jumpRel k).eind = s.eind := rfl
@[simp] theorem State.jumpRel_flash (k : Int) : (s.jumpRel k).flash = s.flash := rfl
@[simp] theorem State.jumpRel_sram (k : Int) : (s.jumpRel k).sram = s.sram := rfl
@[simp] theorem State.jumpRel_ioDev (k : Int) : (s.jumpRel k).ioDev = s.ioDev := rfl
@[simp] theorem State.jumpRel_extDev (k : Int) : (s.jumpRel k).extDev = s.extDev := rfl
@[simp] theorem State.jumpRel_pageBuf (k : Int) : (s.jumpRel k).pageBuf = s.pageBuf := rfl
@[simp] theorem State.jumpRel_bootLock (k : Int) : (s.jumpRel k).bootLock = s.bootLock := rfl
@[simp] theorem State.jumpRel_inhibit (k : Int) : (s.jumpRel k).inhibit = s.inhibit := rfl
@[simp] theorem State.jumpRel_run (k : Int) : (s.jumpRel k).run = s.run := rfl
@[simp] theorem State.jumpRel_prevDes (k : Int) : (s.jumpRel k).prevDes = s.prevDes := rfl
@[simp] theorem State.jumpRel_pending (k : Int) : (s.jumpRel k).pending = s.pending := rfl
@[simp] theorem State.jumpRel_sleepEnabled (k : Int) : (s.jumpRel k).sleepEnabled = s.sleepEnabled := rfl
@[simp] theorem State.jumpRel_inputs (k : Int) : (s.jumpRel k).inputs = s.inputs := rfl
@[simp] theorem State.jumpRel_free (k : Int) : (s.jumpRel k).free = s.free := rfl

@[simp] theorem State.setSreg_cfg (v : Byte) : (s.setSreg v).cfg = s.cfg := rfl
@[simp] theorem State.setSreg_regs (v : Byte) : (s.setSreg v).regs = s.regs := rfl
@[simp] theorem State.setSreg_pc (v : Byte) : (s.setSreg v).pc = s.pc := rfl
@[simp] theorem State.setSreg_sreg (v : Byte) : (s.setSreg v).sreg = v := rfl
@[simp] theorem State.setSreg_sp (v : Byte) : (s.setSreg v).sp = s.sp := rfl
@[simp] theorem State.setSreg_rampX (v : Byte) : (s.setSreg v).rampX = s.rampX := rfl
@[simp] theorem State.setSreg_rampY (v : Byte) : (s.setSreg v).rampY = s.rampY := rfl
@[simp] theorem State.setSreg_rampZ (v : Byte) : (s.setSreg v).rampZ = s.rampZ := rfl
@[simp] theorem State.setSreg_rampD (v : Byte) : (s.setSreg v).rampD = s.rampD := rfl
@[simp] theorem State.setSreg_eind (v : Byte) : (s.setSreg v).eind = s.eind := rfl
@[simp] theorem State.setSreg_flash (v : Byte) : (s.setSreg v).flash = s.flash := rfl
@[simp] theorem State.setSreg_sram (v : Byte) : (s.setSreg v).sram = s.sram := rfl
@[simp] theorem State.setSreg_ioDev (v : Byte) : (s.setSreg v).ioDev = s.ioDev := rfl
@[simp] theorem State.setSreg_extDev (v : Byte) : (s.setSreg v).extDev = s.extDev := rfl
@[simp] theorem State.setSreg_pageBuf (v : Byte) : (s.setSreg v).pageBuf = s.pageBuf := rfl
@[simp] theorem State.setSreg_bootLock (v : Byte) : (s.setSreg v).bootLock = s.bootLock := rfl
@[simp] theorem State.setSreg_inhibit (v : Byte) : (s.setSreg v).inhibit = s.inhibit := rfl
@[simp] theorem State.setSreg_run (v : Byte) : (s.setSreg v).run = s.run := rfl
@[simp] theorem State.setSreg_prevDes (v : Byte) : (s.setSreg v).prevDes = s.prevDes := rfl
@[simp] theorem State.setSreg_pending (v : Byte) : (s.setSreg v).pending = s.pending := rfl
@[simp] theorem State.setSreg_sleepEnabled (v : Byte) : (s.setSreg v).sleepEnabled = s.sleepEnabled := rfl
@[simp] theorem State.setSreg_inputs (v : Byte) : (s.setSreg v).inputs = s.inputs := rfl
@[simp] theorem State.setSreg_free (v : Byte) : (s.setSreg v).free = s.free := rfl

@[simp] theorem State.storeSreg_cfg (v : Byte) : (s.storeSreg v).cfg = s.cfg := rfl
@[simp] theorem State.storeSreg_regs (v : Byte) : (s.storeSreg v).regs = s.regs := rfl
@[simp] theorem State.storeSreg_pc (v : Byte) : (s.storeSreg v).pc = s.pc := rfl
@[simp] theorem State.storeSreg_sreg (v : Byte) : (s.storeSreg v).sreg = v := rfl
@[simp] theorem State.storeSreg_sp (v : Byte) : (s.storeSreg v).sp = s.sp := rfl
@[simp] theorem State.storeSreg_rampX (v : Byte) : (s.storeSreg v).rampX = s.rampX := rfl
@[simp] theorem State.storeSreg_rampY (v : Byte) : (s.storeSreg v).rampY = s.rampY := rfl
@[simp] theorem State.storeSreg_rampZ (v : Byte) : (s.storeSreg v).rampZ = s.rampZ := rfl
@[simp] theorem State.storeSreg_rampD (v : Byte) : (s.storeSreg v).rampD = s.rampD := rfl
@[simp] theorem State.storeSreg_eind (v : Byte) : (s.storeSreg v).eind = s.eind := rfl
@[simp] theorem State.storeSreg_flash (v : Byte) : (s.storeSreg v).flash = s.flash := rfl
@[simp] theorem State.storeSreg_sram (v : Byte) : (s.storeSreg v).sram = s.sram := rfl
@[simp] theorem State.storeSreg_ioDev (v : Byte) : (s.storeSreg v).ioDev = s.ioDev := rfl
@[simp] theorem State.storeSreg_extDev (v : Byte) : (s.storeSreg v).extDev = s.extDev := rfl
@[simp] theorem State.storeSreg_pageBuf (v : Byte) : (s.storeSreg v).pageBuf = s.pageBuf := rfl
@[simp] theorem State.storeSreg_bootLock (v : Byte) : (s.storeSreg v).bootLock = s.bootLock := rfl
@[simp] theorem State.storeSreg_inhibit (v : Byte) : (s.storeSreg v).inhibit = (s.inhibit || (s.cfg.sregWriteHoldoff && !s.sreg.getLsbD 7 && v.getLsbD 7)) := rfl
@[simp] theorem State.storeSreg_run (v : Byte) : (s.storeSreg v).run = s.run := rfl
@[simp] theorem State.storeSreg_prevDes (v : Byte) : (s.storeSreg v).prevDes = s.prevDes := rfl
@[simp] theorem State.storeSreg_pending (v : Byte) : (s.storeSreg v).pending = s.pending := rfl
@[simp] theorem State.storeSreg_sleepEnabled (v : Byte) : (s.storeSreg v).sleepEnabled = s.sleepEnabled := rfl
@[simp] theorem State.storeSreg_inputs (v : Byte) : (s.storeSreg v).inputs = s.inputs := rfl
@[simp] theorem State.storeSreg_free (v : Byte) : (s.storeSreg v).free = s.free := rfl

@[simp] theorem State.storeSpl_cfg (v : Byte) : (s.storeSpl v).cfg = s.cfg := rfl
@[simp] theorem State.storeSpl_regs (v : Byte) : (s.storeSpl v).regs = s.regs := rfl
@[simp] theorem State.storeSpl_pc (v : Byte) : (s.storeSpl v).pc = s.pc := rfl
@[simp] theorem State.storeSpl_sreg (v : Byte) : (s.storeSpl v).sreg = s.sreg := rfl
@[simp] theorem State.storeSpl_sp (v : Byte) : (s.storeSpl v).sp = (s.sp >>> 8).setWidth 8 ++ v := rfl
@[simp] theorem State.storeSpl_rampX (v : Byte) : (s.storeSpl v).rampX = s.rampX := rfl
@[simp] theorem State.storeSpl_rampY (v : Byte) : (s.storeSpl v).rampY = s.rampY := rfl
@[simp] theorem State.storeSpl_rampZ (v : Byte) : (s.storeSpl v).rampZ = s.rampZ := rfl
@[simp] theorem State.storeSpl_rampD (v : Byte) : (s.storeSpl v).rampD = s.rampD := rfl
@[simp] theorem State.storeSpl_eind (v : Byte) : (s.storeSpl v).eind = s.eind := rfl
@[simp] theorem State.storeSpl_flash (v : Byte) : (s.storeSpl v).flash = s.flash := rfl
@[simp] theorem State.storeSpl_sram (v : Byte) : (s.storeSpl v).sram = s.sram := rfl
@[simp] theorem State.storeSpl_ioDev (v : Byte) : (s.storeSpl v).ioDev = s.ioDev := rfl
@[simp] theorem State.storeSpl_extDev (v : Byte) : (s.storeSpl v).extDev = s.extDev := rfl
@[simp] theorem State.storeSpl_pageBuf (v : Byte) : (s.storeSpl v).pageBuf = s.pageBuf := rfl
@[simp] theorem State.storeSpl_bootLock (v : Byte) : (s.storeSpl v).bootLock = s.bootLock := rfl
@[simp] theorem State.storeSpl_inhibit (v : Byte) : (s.storeSpl v).inhibit = s.inhibit := rfl
@[simp] theorem State.storeSpl_run (v : Byte) : (s.storeSpl v).run = s.run := rfl
@[simp] theorem State.storeSpl_prevDes (v : Byte) : (s.storeSpl v).prevDes = s.prevDes := rfl
@[simp] theorem State.storeSpl_pending (v : Byte) : (s.storeSpl v).pending = s.pending := rfl
@[simp] theorem State.storeSpl_sleepEnabled (v : Byte) : (s.storeSpl v).sleepEnabled = s.sleepEnabled := rfl
@[simp] theorem State.storeSpl_inputs (v : Byte) : (s.storeSpl v).inputs = s.inputs := rfl
@[simp] theorem State.storeSpl_free (v : Byte) : (s.storeSpl v).free = s.free := rfl

@[simp] theorem State.storeSph_cfg (v : Byte) : (s.storeSph v).cfg = s.cfg := rfl
@[simp] theorem State.storeSph_regs (v : Byte) : (s.storeSph v).regs = s.regs := rfl
@[simp] theorem State.storeSph_pc (v : Byte) : (s.storeSph v).pc = s.pc := rfl
@[simp] theorem State.storeSph_sreg (v : Byte) : (s.storeSph v).sreg = s.sreg := rfl
@[simp] theorem State.storeSph_sp (v : Byte) : (s.storeSph v).sp = v ++ s.sp.setWidth 8 := rfl
@[simp] theorem State.storeSph_rampX (v : Byte) : (s.storeSph v).rampX = s.rampX := rfl
@[simp] theorem State.storeSph_rampY (v : Byte) : (s.storeSph v).rampY = s.rampY := rfl
@[simp] theorem State.storeSph_rampZ (v : Byte) : (s.storeSph v).rampZ = s.rampZ := rfl
@[simp] theorem State.storeSph_rampD (v : Byte) : (s.storeSph v).rampD = s.rampD := rfl
@[simp] theorem State.storeSph_eind (v : Byte) : (s.storeSph v).eind = s.eind := rfl
@[simp] theorem State.storeSph_flash (v : Byte) : (s.storeSph v).flash = s.flash := rfl
@[simp] theorem State.storeSph_sram (v : Byte) : (s.storeSph v).sram = s.sram := rfl
@[simp] theorem State.storeSph_ioDev (v : Byte) : (s.storeSph v).ioDev = s.ioDev := rfl
@[simp] theorem State.storeSph_extDev (v : Byte) : (s.storeSph v).extDev = s.extDev := rfl
@[simp] theorem State.storeSph_pageBuf (v : Byte) : (s.storeSph v).pageBuf = s.pageBuf := rfl
@[simp] theorem State.storeSph_bootLock (v : Byte) : (s.storeSph v).bootLock = s.bootLock := rfl
@[simp] theorem State.storeSph_inhibit (v : Byte) : (s.storeSph v).inhibit = s.inhibit := rfl
@[simp] theorem State.storeSph_run (v : Byte) : (s.storeSph v).run = s.run := rfl
@[simp] theorem State.storeSph_prevDes (v : Byte) : (s.storeSph v).prevDes = s.prevDes := rfl
@[simp] theorem State.storeSph_pending (v : Byte) : (s.storeSph v).pending = s.pending := rfl
@[simp] theorem State.storeSph_sleepEnabled (v : Byte) : (s.storeSph v).sleepEnabled = s.sleepEnabled := rfl
@[simp] theorem State.storeSph_inputs (v : Byte) : (s.storeSph v).inputs = s.inputs := rfl
@[simp] theorem State.storeSph_free (v : Byte) : (s.storeSph v).free = s.free := rfl

@[simp] theorem State.enableInterrupts_cfg : (s.enableInterrupts).cfg = s.cfg := rfl
@[simp] theorem State.enableInterrupts_regs : (s.enableInterrupts).regs = s.regs := rfl
@[simp] theorem State.enableInterrupts_pc : (s.enableInterrupts).pc = s.pc := rfl
@[simp] theorem State.enableInterrupts_sreg : (s.enableInterrupts).sreg = withBit s.sreg 7 true := rfl
@[simp] theorem State.enableInterrupts_sp : (s.enableInterrupts).sp = s.sp := rfl
@[simp] theorem State.enableInterrupts_rampX : (s.enableInterrupts).rampX = s.rampX := rfl
@[simp] theorem State.enableInterrupts_rampY : (s.enableInterrupts).rampY = s.rampY := rfl
@[simp] theorem State.enableInterrupts_rampZ : (s.enableInterrupts).rampZ = s.rampZ := rfl
@[simp] theorem State.enableInterrupts_rampD : (s.enableInterrupts).rampD = s.rampD := rfl
@[simp] theorem State.enableInterrupts_eind : (s.enableInterrupts).eind = s.eind := rfl
@[simp] theorem State.enableInterrupts_flash : (s.enableInterrupts).flash = s.flash := rfl
@[simp] theorem State.enableInterrupts_sram : (s.enableInterrupts).sram = s.sram := rfl
@[simp] theorem State.enableInterrupts_ioDev : (s.enableInterrupts).ioDev = s.ioDev := rfl
@[simp] theorem State.enableInterrupts_extDev : (s.enableInterrupts).extDev = s.extDev := rfl
@[simp] theorem State.enableInterrupts_pageBuf : (s.enableInterrupts).pageBuf = s.pageBuf := rfl
@[simp] theorem State.enableInterrupts_bootLock : (s.enableInterrupts).bootLock = s.bootLock := rfl
@[simp] theorem State.enableInterrupts_inhibit : (s.enableInterrupts).inhibit = true := rfl
@[simp] theorem State.enableInterrupts_run : (s.enableInterrupts).run = s.run := rfl
@[simp] theorem State.enableInterrupts_prevDes : (s.enableInterrupts).prevDes = s.prevDes := rfl
@[simp] theorem State.enableInterrupts_pending : (s.enableInterrupts).pending = s.pending := rfl
@[simp] theorem State.enableInterrupts_sleepEnabled : (s.enableInterrupts).sleepEnabled = s.sleepEnabled := rfl
@[simp] theorem State.enableInterrupts_inputs : (s.enableInterrupts).inputs = s.inputs := rfl
@[simp] theorem State.enableInterrupts_free : (s.enableInterrupts).free = s.free := rfl

@[simp] theorem State.noteInstr_cfg (i : Instr) : (s.noteInstr i).cfg = s.cfg := rfl
@[simp] theorem State.noteInstr_regs (i : Instr) : (s.noteInstr i).regs = s.regs := rfl
@[simp] theorem State.noteInstr_pc (i : Instr) : (s.noteInstr i).pc = s.pc := rfl
@[simp] theorem State.noteInstr_sreg (i : Instr) : (s.noteInstr i).sreg = s.sreg := rfl
@[simp] theorem State.noteInstr_sp (i : Instr) : (s.noteInstr i).sp = s.sp := rfl
@[simp] theorem State.noteInstr_rampX (i : Instr) : (s.noteInstr i).rampX = s.rampX := rfl
@[simp] theorem State.noteInstr_rampY (i : Instr) : (s.noteInstr i).rampY = s.rampY := rfl
@[simp] theorem State.noteInstr_rampZ (i : Instr) : (s.noteInstr i).rampZ = s.rampZ := rfl
@[simp] theorem State.noteInstr_rampD (i : Instr) : (s.noteInstr i).rampD = s.rampD := rfl
@[simp] theorem State.noteInstr_eind (i : Instr) : (s.noteInstr i).eind = s.eind := rfl
@[simp] theorem State.noteInstr_flash (i : Instr) : (s.noteInstr i).flash = s.flash := rfl
@[simp] theorem State.noteInstr_sram (i : Instr) : (s.noteInstr i).sram = s.sram := rfl
@[simp] theorem State.noteInstr_ioDev (i : Instr) : (s.noteInstr i).ioDev = s.ioDev := rfl
@[simp] theorem State.noteInstr_extDev (i : Instr) : (s.noteInstr i).extDev = s.extDev := rfl
@[simp] theorem State.noteInstr_pageBuf (i : Instr) : (s.noteInstr i).pageBuf = s.pageBuf := rfl
@[simp] theorem State.noteInstr_bootLock (i : Instr) : (s.noteInstr i).bootLock = s.bootLock := rfl
@[simp] theorem State.noteInstr_inhibit (i : Instr) : (s.noteInstr i).inhibit = s.inhibit := rfl
@[simp] theorem State.noteInstr_run (i : Instr) : (s.noteInstr i).run = s.run := rfl
@[simp] theorem State.noteInstr_prevDes (i : Instr) : (s.noteInstr i).prevDes = Instr.isDes i := rfl
@[simp] theorem State.noteInstr_pending (i : Instr) : (s.noteInstr i).pending = s.pending := rfl
@[simp] theorem State.noteInstr_sleepEnabled (i : Instr) : (s.noteInstr i).sleepEnabled = s.sleepEnabled := rfl
@[simp] theorem State.noteInstr_inputs (i : Instr) : (s.noteInstr i).inputs = s.inputs := rfl
@[simp] theorem State.noteInstr_free (i : Instr) : (s.noteInstr i).free = s.free := rfl

@[simp] theorem State.drawByte_cfg : (s.drawByte.2).cfg = s.cfg := rfl
@[simp] theorem State.drawByte_regs : (s.drawByte.2).regs = s.regs := rfl
@[simp] theorem State.drawByte_pc : (s.drawByte.2).pc = s.pc := rfl
@[simp] theorem State.drawByte_sreg : (s.drawByte.2).sreg = s.sreg := rfl
@[simp] theorem State.drawByte_sp : (s.drawByte.2).sp = s.sp := rfl
@[simp] theorem State.drawByte_rampX : (s.drawByte.2).rampX = s.rampX := rfl
@[simp] theorem State.drawByte_rampY : (s.drawByte.2).rampY = s.rampY := rfl
@[simp] theorem State.drawByte_rampZ : (s.drawByte.2).rampZ = s.rampZ := rfl
@[simp] theorem State.drawByte_rampD : (s.drawByte.2).rampD = s.rampD := rfl
@[simp] theorem State.drawByte_eind : (s.drawByte.2).eind = s.eind := rfl
@[simp] theorem State.drawByte_flash : (s.drawByte.2).flash = s.flash := rfl
@[simp] theorem State.drawByte_sram : (s.drawByte.2).sram = s.sram := rfl
@[simp] theorem State.drawByte_ioDev : (s.drawByte.2).ioDev = s.ioDev := rfl
@[simp] theorem State.drawByte_extDev : (s.drawByte.2).extDev = s.extDev := rfl
@[simp] theorem State.drawByte_pageBuf : (s.drawByte.2).pageBuf = s.pageBuf := rfl
@[simp] theorem State.drawByte_bootLock : (s.drawByte.2).bootLock = s.bootLock := rfl
@[simp] theorem State.drawByte_inhibit : (s.drawByte.2).inhibit = s.inhibit := rfl
@[simp] theorem State.drawByte_run : (s.drawByte.2).run = s.run := rfl
@[simp] theorem State.drawByte_prevDes : (s.drawByte.2).prevDes = s.prevDes := rfl
@[simp] theorem State.drawByte_pending : (s.drawByte.2).pending = s.pending := rfl
@[simp] theorem State.drawByte_sleepEnabled : (s.drawByte.2).sleepEnabled = s.sleepEnabled := rfl
@[simp] theorem State.drawByte_inputs : (s.drawByte.2).inputs = s.inputs := rfl
@[simp] theorem State.drawByte_free : (s.drawByte.2).free = s.free + 1 := rfl

@[simp] theorem State.finish_cfg (d : Reg) (v f : Byte) : (s.finish d v f).cfg = s.cfg := rfl
@[simp] theorem State.finish_regs (d : Reg) (v f : Byte) : (s.finish d v f).regs = s.regs.set d v := rfl
@[simp] theorem State.finish_pc (d : Reg) (v f : Byte) : (s.finish d v f).pc = BitVec.ofNat 22 ((s.pc.toNat + 1) % 2 ^ s.cfg.pcBits) := rfl
@[simp] theorem State.finish_sreg (d : Reg) (v f : Byte) : (s.finish d v f).sreg = f := rfl
@[simp] theorem State.finish_sp (d : Reg) (v f : Byte) : (s.finish d v f).sp = s.sp := rfl
@[simp] theorem State.finish_rampX (d : Reg) (v f : Byte) : (s.finish d v f).rampX = s.rampX := rfl
@[simp] theorem State.finish_rampY (d : Reg) (v f : Byte) : (s.finish d v f).rampY = s.rampY := rfl
@[simp] theorem State.finish_rampZ (d : Reg) (v f : Byte) : (s.finish d v f).rampZ = s.rampZ := rfl
@[simp] theorem State.finish_rampD (d : Reg) (v f : Byte) : (s.finish d v f).rampD = s.rampD := rfl
@[simp] theorem State.finish_eind (d : Reg) (v f : Byte) : (s.finish d v f).eind = s.eind := rfl
@[simp] theorem State.finish_flash (d : Reg) (v f : Byte) : (s.finish d v f).flash = s.flash := rfl
@[simp] theorem State.finish_sram (d : Reg) (v f : Byte) : (s.finish d v f).sram = s.sram := rfl
@[simp] theorem State.finish_ioDev (d : Reg) (v f : Byte) : (s.finish d v f).ioDev = s.ioDev := rfl
@[simp] theorem State.finish_extDev (d : Reg) (v f : Byte) : (s.finish d v f).extDev = s.extDev := rfl
@[simp] theorem State.finish_pageBuf (d : Reg) (v f : Byte) : (s.finish d v f).pageBuf = s.pageBuf := rfl
@[simp] theorem State.finish_bootLock (d : Reg) (v f : Byte) : (s.finish d v f).bootLock = s.bootLock := rfl
@[simp] theorem State.finish_inhibit (d : Reg) (v f : Byte) : (s.finish d v f).inhibit = s.inhibit := rfl
@[simp] theorem State.finish_run (d : Reg) (v f : Byte) : (s.finish d v f).run = s.run := rfl
@[simp] theorem State.finish_prevDes (d : Reg) (v f : Byte) : (s.finish d v f).prevDes = s.prevDes := rfl
@[simp] theorem State.finish_pending (d : Reg) (v f : Byte) : (s.finish d v f).pending = s.pending := rfl
@[simp] theorem State.finish_sleepEnabled (d : Reg) (v f : Byte) : (s.finish d v f).sleepEnabled = s.sleepEnabled := rfl
@[simp] theorem State.finish_inputs (d : Reg) (v f : Byte) : (s.finish d v f).inputs = s.inputs := rfl
@[simp] theorem State.finish_free (d : Reg) (v f : Byte) : (s.finish d v f).free = s.free := rfl

@[simp] theorem State.finishPair_cfg (d : Reg) (v : Word16) (f : Byte) : (s.finishPair d v f).cfg = s.cfg := rfl
@[simp] theorem State.finishPair_regs (d : Reg) (v : Word16) (f : Byte) : (s.finishPair d v f).regs = (s.setPair d v).regs := rfl
@[simp] theorem State.finishPair_pc (d : Reg) (v : Word16) (f : Byte) : (s.finishPair d v f).pc = BitVec.ofNat 22 ((s.pc.toNat + 1) % 2 ^ s.cfg.pcBits) := rfl
@[simp] theorem State.finishPair_sreg (d : Reg) (v : Word16) (f : Byte) : (s.finishPair d v f).sreg = f := rfl
@[simp] theorem State.finishPair_sp (d : Reg) (v : Word16) (f : Byte) : (s.finishPair d v f).sp = s.sp := rfl
@[simp] theorem State.finishPair_rampX (d : Reg) (v : Word16) (f : Byte) : (s.finishPair d v f).rampX = s.rampX := rfl
@[simp] theorem State.finishPair_rampY (d : Reg) (v : Word16) (f : Byte) : (s.finishPair d v f).rampY = s.rampY := rfl
@[simp] theorem State.finishPair_rampZ (d : Reg) (v : Word16) (f : Byte) : (s.finishPair d v f).rampZ = s.rampZ := rfl
@[simp] theorem State.finishPair_rampD (d : Reg) (v : Word16) (f : Byte) : (s.finishPair d v f).rampD = s.rampD := rfl
@[simp] theorem State.finishPair_eind (d : Reg) (v : Word16) (f : Byte) : (s.finishPair d v f).eind = s.eind := rfl
@[simp] theorem State.finishPair_flash (d : Reg) (v : Word16) (f : Byte) : (s.finishPair d v f).flash = s.flash := rfl
@[simp] theorem State.finishPair_sram (d : Reg) (v : Word16) (f : Byte) : (s.finishPair d v f).sram = s.sram := rfl
@[simp] theorem State.finishPair_ioDev (d : Reg) (v : Word16) (f : Byte) : (s.finishPair d v f).ioDev = s.ioDev := rfl
@[simp] theorem State.finishPair_extDev (d : Reg) (v : Word16) (f : Byte) : (s.finishPair d v f).extDev = s.extDev := rfl
@[simp] theorem State.finishPair_pageBuf (d : Reg) (v : Word16) (f : Byte) : (s.finishPair d v f).pageBuf = s.pageBuf := rfl
@[simp] theorem State.finishPair_bootLock (d : Reg) (v : Word16) (f : Byte) : (s.finishPair d v f).bootLock = s.bootLock := rfl
@[simp] theorem State.finishPair_inhibit (d : Reg) (v : Word16) (f : Byte) : (s.finishPair d v f).inhibit = s.inhibit := rfl
@[simp] theorem State.finishPair_run (d : Reg) (v : Word16) (f : Byte) : (s.finishPair d v f).run = s.run := rfl
@[simp] theorem State.finishPair_prevDes (d : Reg) (v : Word16) (f : Byte) : (s.finishPair d v f).prevDes = s.prevDes := rfl
@[simp] theorem State.finishPair_pending (d : Reg) (v : Word16) (f : Byte) : (s.finishPair d v f).pending = s.pending := rfl
@[simp] theorem State.finishPair_sleepEnabled (d : Reg) (v : Word16) (f : Byte) : (s.finishPair d v f).sleepEnabled = s.sleepEnabled := rfl
@[simp] theorem State.finishPair_inputs (d : Reg) (v : Word16) (f : Byte) : (s.finishPair d v f).inputs = s.inputs := rfl
@[simp] theorem State.finishPair_free (d : Reg) (v : Word16) (f : Byte) : (s.finishPair d v f).free = s.free := rfl

@[simp] theorem State.setBlocks_cfg (x y : BitVec 64) : (s.setBlocks x y).cfg = s.cfg := by simp only [State.setBlocks]
@[simp] theorem State.setBlocks_pc (x y : BitVec 64) : (s.setBlocks x y).pc = s.pc := by simp only [State.setBlocks]
@[simp] theorem State.setBlocks_sreg (x y : BitVec 64) : (s.setBlocks x y).sreg = s.sreg := by simp only [State.setBlocks]
@[simp] theorem State.setBlocks_sp (x y : BitVec 64) : (s.setBlocks x y).sp = s.sp := by simp only [State.setBlocks]
@[simp] theorem State.setBlocks_rampX (x y : BitVec 64) : (s.setBlocks x y).rampX = s.rampX := by simp only [State.setBlocks]
@[simp] theorem State.setBlocks_rampY (x y : BitVec 64) : (s.setBlocks x y).rampY = s.rampY := by simp only [State.setBlocks]
@[simp] theorem State.setBlocks_rampZ (x y : BitVec 64) : (s.setBlocks x y).rampZ = s.rampZ := by simp only [State.setBlocks]
@[simp] theorem State.setBlocks_rampD (x y : BitVec 64) : (s.setBlocks x y).rampD = s.rampD := by simp only [State.setBlocks]
@[simp] theorem State.setBlocks_eind (x y : BitVec 64) : (s.setBlocks x y).eind = s.eind := by simp only [State.setBlocks]
@[simp] theorem State.setBlocks_flash (x y : BitVec 64) : (s.setBlocks x y).flash = s.flash := by simp only [State.setBlocks]
@[simp] theorem State.setBlocks_sram (x y : BitVec 64) : (s.setBlocks x y).sram = s.sram := by simp only [State.setBlocks]
@[simp] theorem State.setBlocks_ioDev (x y : BitVec 64) : (s.setBlocks x y).ioDev = s.ioDev := by simp only [State.setBlocks]
@[simp] theorem State.setBlocks_extDev (x y : BitVec 64) : (s.setBlocks x y).extDev = s.extDev := by simp only [State.setBlocks]
@[simp] theorem State.setBlocks_pageBuf (x y : BitVec 64) : (s.setBlocks x y).pageBuf = s.pageBuf := by simp only [State.setBlocks]
@[simp] theorem State.setBlocks_bootLock (x y : BitVec 64) : (s.setBlocks x y).bootLock = s.bootLock := by simp only [State.setBlocks]
@[simp] theorem State.setBlocks_inhibit (x y : BitVec 64) : (s.setBlocks x y).inhibit = s.inhibit := by simp only [State.setBlocks]
@[simp] theorem State.setBlocks_run (x y : BitVec 64) : (s.setBlocks x y).run = s.run := by simp only [State.setBlocks]
@[simp] theorem State.setBlocks_prevDes (x y : BitVec 64) : (s.setBlocks x y).prevDes = s.prevDes := by simp only [State.setBlocks]
@[simp] theorem State.setBlocks_pending (x y : BitVec 64) : (s.setBlocks x y).pending = s.pending := by simp only [State.setBlocks]
@[simp] theorem State.setBlocks_sleepEnabled (x y : BitVec 64) : (s.setBlocks x y).sleepEnabled = s.sleepEnabled := by simp only [State.setBlocks]
@[simp] theorem State.setBlocks_inputs (x y : BitVec 64) : (s.setBlocks x y).inputs = s.inputs := by simp only [State.setBlocks]
@[simp] theorem State.setBlocks_free (x y : BitVec 64) : (s.setBlocks x y).free = s.free := by simp only [State.setBlocks]

@[simp] theorem State.setRampZZ_cfg (b : Nat) : (s.setRampZZ b).cfg = s.cfg := rfl
@[simp] theorem State.setRampZZ_regs (b : Nat) : (s.setRampZZ b).regs = (s.setPair 30 (BitVec.ofNat 16 b)).regs := rfl
@[simp] theorem State.setRampZZ_pc (b : Nat) : (s.setRampZZ b).pc = s.pc := rfl
@[simp] theorem State.setRampZZ_sreg (b : Nat) : (s.setRampZZ b).sreg = s.sreg := rfl
@[simp] theorem State.setRampZZ_sp (b : Nat) : (s.setRampZZ b).sp = s.sp := rfl
@[simp] theorem State.setRampZZ_rampX (b : Nat) : (s.setRampZZ b).rampX = s.rampX := rfl
@[simp] theorem State.setRampZZ_rampY (b : Nat) : (s.setRampZZ b).rampY = s.rampY := rfl
@[simp] theorem State.setRampZZ_rampZ (b : Nat) : (s.setRampZZ b).rampZ = BitVec.ofNat 8 (b % 2 ^ 24 / 65536) := rfl
@[simp] theorem State.setRampZZ_rampD (b : Nat) : (s.setRampZZ b).rampD = s.rampD := rfl
@[simp] theorem State.setRampZZ_eind (b : Nat) : (s.setRampZZ b).eind = s.eind := rfl
@[simp] theorem State.setRampZZ_flash (b : Nat) : (s.setRampZZ b).flash = s.flash := rfl
@[simp] theorem State.setRampZZ_sram (b : Nat) : (s.setRampZZ b).sram = s.sram := rfl
@[simp] theorem State.setRampZZ_ioDev (b : Nat) : (s.setRampZZ b).ioDev = s.ioDev := rfl
@[simp] theorem State.setRampZZ_extDev (b : Nat) : (s.setRampZZ b).extDev = s.extDev := rfl
@[simp] theorem State.setRampZZ_pageBuf (b : Nat) : (s.setRampZZ b).pageBuf = s.pageBuf := rfl
@[simp] theorem State.setRampZZ_bootLock (b : Nat) : (s.setRampZZ b).bootLock = s.bootLock := rfl
@[simp] theorem State.setRampZZ_inhibit (b : Nat) : (s.setRampZZ b).inhibit = s.inhibit := rfl
@[simp] theorem State.setRampZZ_run (b : Nat) : (s.setRampZZ b).run = s.run := rfl
@[simp] theorem State.setRampZZ_prevDes (b : Nat) : (s.setRampZZ b).prevDes = s.prevDes := rfl
@[simp] theorem State.setRampZZ_pending (b : Nat) : (s.setRampZZ b).pending = s.pending := rfl
@[simp] theorem State.setRampZZ_sleepEnabled (b : Nat) : (s.setRampZZ b).sleepEnabled = s.sleepEnabled := rfl
@[simp] theorem State.setRampZZ_inputs (b : Nat) : (s.setRampZZ b).inputs = s.inputs := rfl
@[simp] theorem State.setRampZZ_free (b : Nat) : (s.setRampZZ b).free = s.free := rfl

@[simp] theorem spmEffect_cfg (op : SpmOp) (b : Nat) (w : Word16) : ((spmEffect s op b w)).cfg = s.cfg := rfl
@[simp] theorem spmEffect_regs (op : SpmOp) (b : Nat) (w : Word16) : ((spmEffect s op b w)).regs = s.regs := rfl
@[simp] theorem spmEffect_pc (op : SpmOp) (b : Nat) (w : Word16) : ((spmEffect s op b w)).pc = s.pc := rfl
@[simp] theorem spmEffect_sreg (op : SpmOp) (b : Nat) (w : Word16) : ((spmEffect s op b w)).sreg = s.sreg := rfl
@[simp] theorem spmEffect_sp (op : SpmOp) (b : Nat) (w : Word16) : ((spmEffect s op b w)).sp = s.sp := rfl
@[simp] theorem spmEffect_rampX (op : SpmOp) (b : Nat) (w : Word16) : ((spmEffect s op b w)).rampX = s.rampX := rfl
@[simp] theorem spmEffect_rampY (op : SpmOp) (b : Nat) (w : Word16) : ((spmEffect s op b w)).rampY = s.rampY := rfl
@[simp] theorem spmEffect_rampZ (op : SpmOp) (b : Nat) (w : Word16) : ((spmEffect s op b w)).rampZ = s.rampZ := rfl
@[simp] theorem spmEffect_rampD (op : SpmOp) (b : Nat) (w : Word16) : ((spmEffect s op b w)).rampD = s.rampD := rfl
@[simp] theorem spmEffect_eind (op : SpmOp) (b : Nat) (w : Word16) : ((spmEffect s op b w)).eind = s.eind := rfl
@[simp] theorem spmEffect_flash (op : SpmOp) (b : Nat) (w : Word16) : ((spmEffect s op b w)).flash = spmFlash s op b w := rfl
@[simp] theorem spmEffect_sram (op : SpmOp) (b : Nat) (w : Word16) : ((spmEffect s op b w)).sram = s.sram := rfl
@[simp] theorem spmEffect_ioDev (op : SpmOp) (b : Nat) (w : Word16) : ((spmEffect s op b w)).ioDev = s.ioDev := rfl
@[simp] theorem spmEffect_extDev (op : SpmOp) (b : Nat) (w : Word16) : ((spmEffect s op b w)).extDev = s.extDev := rfl
@[simp] theorem spmEffect_pageBuf (op : SpmOp) (b : Nat) (w : Word16) : ((spmEffect s op b w)).pageBuf = spmBuffer s op b w := rfl
@[simp] theorem spmEffect_bootLock (op : SpmOp) (b : Nat) (w : Word16) : ((spmEffect s op b w)).bootLock = if op = .lockBits then w else s.bootLock := rfl
@[simp] theorem spmEffect_inhibit (op : SpmOp) (b : Nat) (w : Word16) : ((spmEffect s op b w)).inhibit = s.inhibit := rfl
@[simp] theorem spmEffect_run (op : SpmOp) (b : Nat) (w : Word16) : ((spmEffect s op b w)).run = s.run := rfl
@[simp] theorem spmEffect_prevDes (op : SpmOp) (b : Nat) (w : Word16) : ((spmEffect s op b w)).prevDes = s.prevDes := rfl
@[simp] theorem spmEffect_pending (op : SpmOp) (b : Nat) (w : Word16) : ((spmEffect s op b w)).pending = s.pending := rfl
@[simp] theorem spmEffect_sleepEnabled (op : SpmOp) (b : Nat) (w : Word16) : ((spmEffect s op b w)).sleepEnabled = s.sleepEnabled := rfl
@[simp] theorem spmEffect_inputs (op : SpmOp) (b : Nat) (w : Word16) : ((spmEffect s op b w)).inputs = s.inputs := rfl
@[simp] theorem spmEffect_free (op : SpmOp) (b : Nat) (w : Word16) : ((spmEffect s op b w)).free = s.free + 1 := rfl

/-! ### Registers -/

theorem State.reg_setReg_self (d : Reg) (v : Byte) : (s.setReg d v).reg d = v := by
  simp [State.reg]

theorem State.reg_setReg_of_ne {d j : Reg} (v : Byte) (h : j ≠ d) : (s.setReg d v).reg j = s.reg j := by
  have h' : d.val ≠ j.val := fun e => h (Fin.ext e.symm)
  simp [State.reg, h']

/-- A register after a write to a register. -/
@[simp] theorem State.reg_setReg (d j : Reg) (v : Byte) :
    (s.setReg d v).reg j = if j = d then v else s.reg j := by
  by_cases h : j = d
  · subst h; simp [State.reg_setReg_self]
  · simp [State.reg_setReg_of_ne s v h, h]

/-- A register after a write to a pair: the high byte is written last. -/
@[simp] theorem State.reg_setPair (d j : Reg) (v : Word16) :
    (s.setPair d v).reg j
      = if j = d + 1 then (v >>> 8).setWidth 8 else if j = d then v.setWidth 8 else s.reg j := by
  simp [State.setPair]

/-- A register of a state depends on its register file alone. -/
theorem State.reg_congr {s t : State} (h : s.regs = t.regs) (d : Reg) : s.reg d = t.reg d := by
  simp [State.reg, h]

@[simp] theorem State.reg_setPc (n : Nat) (d : Reg) : (s.setPc n).reg d = s.reg d := rfl

@[simp] theorem State.reg_advance (n : Nat) (d : Reg) : (s.advance n).reg d = s.reg d := rfl

@[simp] theorem State.reg_setSreg (v : Byte) (d : Reg) : (s.setSreg v).reg d = s.reg d := rfl

@[simp] theorem State.reg_drawByte (d : Reg) : s.drawByte.2.reg d = s.reg d := rfl

@[simp] theorem State.reg_finish (d j : Reg) (v f : Byte) :
    (s.finish d v f).reg j = if j = d then v else s.reg j := by
  simp [State.finish]

/-- The byte `i` of a block written to the registers. -/
theorem State.reg_setBlocks (x y : BitVec 64) (j : Reg) :
    (s.setBlocks x y).reg j
      = if j.val < 8 then blockByte x j.val else if j.val < 16 then blockByte y (j.val - 8) else s.reg j := by
  simp [State.reg, State.setBlocks]

end Sys2Proof.Machine
end

