-- ==== Sys2Proof/Laws/Ops.lean ====
section
/-! SUPPORT. One lemma per shared operation that says once everything it can do: sequencing, reads, writes, the stack,
and what no data access ever changes. -/
namespace Sys2Proof.Machine

/-! ### Sequencing -/

@[simp] theorem Res.andThen_next {α β : Type} (a : α) (f : α → Res β) : Res.andThen (.next a) f = f a := rfl

@[simp] theorem Res.andThen_fault {α β : Type} (e : Fault) (f : α → Res β) :
    Res.andThen (.fault e : Res α) f = .fault e := rfl

@[simp] theorem Res.andThen_refused {α β : Type} (e : Refusal) (f : α → Res β) :
    Res.andThen (.refused e : Res α) f = .refused e := rfl

/-- A sequence goes on exactly when both of its parts do. -/
theorem Res.andThen_eq_next {α β : Type} {r : Res α} {f : α → Res β} {b : β} :
    Res.andThen r f = .next b ↔ ∃ a, r = .next a ∧ f a = .next b := by
  cases r <;> simp

/-! ### Reads -/

/-- What answers at an I/O address no core register has (R65). -/
theorem ioTarget_of_not_core {c : Config} {a : Fin 64} (h : a.val ∉ c.coreIoAddresses) :
    ioTarget c a = if inSpans c.ioStorage a.val then .storage else .device := by
  unfold Config.coreIoAddresses at h
  unfold ioTarget
  simp only [List.mem_append, List.mem_cons, not_or] at h
  repeat' split
  all_goals first | rfl | (exfalso; simp_all)

/-- A read of the I/O space whose value the state determines. -/
theorem ioRead_of_peekIo {s : State} {a : Fin 64} {v : Byte} (h : peekIo s a = some v) : ioRead s a = (v, s) := by
  unfold peekIo at h; unfold ioRead
  split at h <;> simp_all [storageRead]

/-- A read of the I/O space whose value no rule states: a free value is drawn. -/
theorem ioRead_of_none {s : State} {a : Fin 64} (h : peekIo s a = none) : ioRead s a = s.drawByte := by
  unfold peekIo at h; unfold ioRead
  split at h <;> simp_all [storageRead]

/-- A read of the data space whose value the state determines. -/
theorem memRead_of_peek {s : State} {a : Nat} {v : Byte} (h : peek s a = some v) : memRead s a = .next (v, s) := by
  unfold peek at h; unfold memRead
  split at h
  · simp_all
  · simp [ioRead_of_peekIo h]
  · split at h <;> simp_all [extRead, storageRead]
  · split at h <;> simp_all [progByte]
  · simp [h]
  · cases h

/-- A read of the data space whose value the state does not determine: what answers at the address says how it ends. -/
theorem memRead_of_none {s : State} {a : Nat} (h : peek s a = none) :
    memRead s a = match dataPlace s.cfg a with
      | .register d => .next (s.reg d, s)
      | .io _ | .extIo => .next s.drawByte
      | .flash b => .fault (.outOfRange .program b)
      | .sram => .fault (.unwritten a)
      | .nowhere => .fault (.outOfRange .data a) := by
  unfold peek at h; unfold memRead
  cases hp : dataPlace s.cfg a <;> simp only [hp] at h ⊢
  · rw [ioRead_of_none h]
  · split at h <;> simp_all [extRead, storageRead]
  · unfold progByte
    split at h
    · rw [if_pos ‹_›, h]; rfl
    · rw [if_neg ‹_›]; rfl
  · rw [h]

/-- A read of the I/O space leaves the state as it is, or draws one free value. -/
theorem ioRead_state (s : State) (a : Fin 64) : (ioRead s a).2 = s ∨ (ioRead s a).2 = s.drawByte.2 := by
  cases h : peekIo s a with
  | some v => exact .inl (by rw [ioRead_of_peekIo h])
  | none => exact .inr (by rw [ioRead_of_none h])

/-- A read that answers leaves the state as it is, or draws one free value. -/
theorem memRead_state {s t : State} {a : Nat} {v : Byte} (h : memRead s a = .next (v, t)) :
    t = s ∨ t = s.drawByte.2 := by
  cases hp : peek s a with
  | some w => rw [memRead_of_peek hp] at h; injection h with h; injection h with _ h; exact .inl h.symm
  | none =>
    rw [memRead_of_none hp] at h
    split at h <;> try cases h
    · exact .inl rfl
    all_goals exact .inr rfl

/-! ### Writes -/

/-- Everything a write of the I/O space can do. -/
theorem ioWrite_cases (s : State) (a : Fin 64) (v : Byte) :
    ioWrite s a v = s.storeSreg v ∨ ioWrite s a v = s.storeSpl v
      ∨ (s.cfg.spWidth = .sixteen ∧ ioWrite s a v = s.storeSph v)
      ∨ ioWrite s a v = { s with rampX := v } ∨ ioWrite s a v = { s with rampY := v }
      ∨ ioWrite s a v = { s with rampZ := v } ∨ ioWrite s a v = { s with rampD := v }
      ∨ ioWrite s a v = { s with eind := v }
      ∨ ioWrite s a v = { s with ioDev := s.ioDev.write a.val v } ∨ ioWrite s a v = s := by
  have hs : ioTarget s.cfg a = .sph → s.cfg.spWidth = .sixteen := by
    unfold ioTarget
    repeat' split
    all_goals simp_all
  unfold ioWrite
  split <;> simp_all

/-- Everything a write of the data space that answers can do. -/
theorem memWrite_cases {s t : State} {a : Nat} {v : Byte} (h : memWrite s a v = .next t) :
    (∃ d, dataPlace s.cfg a = .register d ∧ t = s.setReg d v)
      ∨ (∃ i, dataPlace s.cfg a = .io i ∧ t = ioWrite s i v)
      ∨ (dataPlace s.cfg a = .extIo ∧ t = extWrite s a v)
      ∨ (dataPlace s.cfg a = .sram ∧ t = { s with sram := s.sram.write a v }) := by
  unfold memWrite at h
  split at h <;> simp_all [eq_comm]

/-! ### What no data access changes -/

/-- `t` is `s` as far as control goes: the device, the pc, Program memory and its buffer, the lock bits, the run state,
and everything that comes from outside. Data accesses change none of it. -/
structure SameControl (s t : State) : Prop where
  cfg : t.cfg = s.cfg
  pc : t.pc = s.pc
  flash : t.flash = s.flash
  pageBuf : t.pageBuf = s.pageBuf
  bootLock : t.bootLock = s.bootLock
  run : t.run = s.run
  prevDes : t.prevDes = s.prevDes
  pending : t.pending = s.pending
  sleepEnabled : t.sleepEnabled = s.sleepEnabled
  inputs : t.inputs = s.inputs

theorem SameControl.refl (s : State) : SameControl s s := ⟨rfl, rfl, rfl, rfl, rfl, rfl, rfl, rfl, rfl, rfl⟩

theorem SameControl.trans {s t u : State} (h : SameControl s t) (k : SameControl t u) : SameControl s u := by
  cases h; cases k; constructor <;> simp_all

theorem SameControl.draw (s : State) : SameControl s s.drawByte.2 := ⟨rfl, rfl, rfl, rfl, rfl, rfl, rfl, rfl, rfl, rfl⟩

theorem SameControl.ioRead (s : State) (a : Fin 64) : SameControl s (ioRead s a).2 := by
  rcases ioRead_state s a with h | h <;> rw [h]
  · exact .refl s
  · exact .draw s

theorem SameControl.ioWrite (s : State) (a : Fin 64) (v : Byte) : SameControl s (ioWrite s a v) := by
  unfold Sys2Proof.Machine.ioWrite
  split <;> exact ⟨rfl, rfl, rfl, rfl, rfl, rfl, rfl, rfl, rfl, rfl⟩

theorem SameControl.ioBitWrite (s : State) (a : Fin 64) (b : BitNum) (on : Bool) :
    SameControl s (ioBitWrite s a b on) := by
  unfold Sys2Proof.Machine.ioBitWrite
  split
  · exact .refl s
  · exact (SameControl.ioRead s a).trans (.ioWrite _ _ _)

theorem SameControl.memRead {s t : State} {a : Nat} {v : Byte} (h : memRead s a = .next (v, t)) : SameControl s t := by
  rcases memRead_state h with h | h <;> rw [h]
  · exact .refl s
  · exact .draw s

theorem SameControl.memWrite {s t : State} {a : Nat} {v : Byte} (h : memWrite s a v = .next t) : SameControl s t := by
  rcases memWrite_cases h with ⟨d, -, h⟩ | ⟨i, -, h⟩ | ⟨-, h⟩ | ⟨-, h⟩ <;> subst h
  · exact ⟨rfl, rfl, rfl, rfl, rfl, rfl, rfl, rfl, rfl, rfl⟩
  · exact .ioWrite s i v
  · unfold extWrite; split <;> exact ⟨rfl, rfl, rfl, rfl, rfl, rfl, rfl, rfl, rfl, rfl⟩
  · exact ⟨rfl, rfl, rfl, rfl, rfl, rfl, rfl, rfl, rfl, rfl⟩

/-! ### The stack -/

/-- A push that answers: one data write at SP, then SP one down. -/
theorem push_eq_next {s t : State} {v : Byte} :
    push s v = .next t ↔ ∃ u, memWrite s s.sp.toNat v = .next u ∧ t = { u with sp := spDown u.cfg u.sp } := by
  simp only [push, Res.andThen_eq_next, Host.Outcome.next.injEq, eq_comm (a := t)]

/-- A pop that answers: SP one up, then one data read there. -/
theorem pop_eq_next {s t : State} {v : Byte} :
    pop s = .next (v, t) ↔ memRead { s with sp := spUp s.cfg s.sp } (spUp s.cfg s.sp).toNat = .next (v, t) := Iff.rfl

theorem SameControl.push {s t : State} {v : Byte} (h : push s v = .next t) : SameControl s t := by
  obtain ⟨u, hu, rfl⟩ := push_eq_next.1 h
  exact (SameControl.memWrite hu).trans ⟨rfl, rfl, rfl, rfl, rfl, rfl, rfl, rfl, rfl, rfl⟩

theorem SameControl.pop {s t : State} {v : Byte} (h : pop s = .next (v, t)) : SameControl s t :=
  (SameControl.mk rfl rfl rfl rfl rfl rfl rfl rfl rfl rfl : SameControl s { s with sp := spUp s.cfg s.sp }).trans
    (SameControl.memRead (pop_eq_next.1 h))

theorem SameControl.pushPc {s t : State} {a : Nat} (h : pushPc s a = .next t) : SameControl s t := by
  unfold Sys2Proof.Machine.pushPc at h
  obtain ⟨u, hu, h⟩ := Res.andThen_eq_next.1 h
  obtain ⟨w, hw, h⟩ := Res.andThen_eq_next.1 h
  have k := (SameControl.push hu).trans (SameControl.push hw)
  split at h
  · exact k.trans (SameControl.push h)
  · cases h; exact k

theorem SameControl.popPc {s t : State} {a : Nat} (h : popPc s = .next (a, t)) : SameControl s t := by
  unfold Sys2Proof.Machine.popPc at h
  obtain ⟨⟨x, u⟩, hu, h⟩ := Res.andThen_eq_next.1 h
  obtain ⟨⟨y, w⟩, hw, h⟩ := Res.andThen_eq_next.1 h
  obtain ⟨⟨z, r⟩, hr, h⟩ := Res.andThen_eq_next.1 h
  have k : SameControl s u := by
    split at hu
    · exact SameControl.pop hu
    · cases hu; exact .refl s
  cases h
  exact (k.trans (SameControl.pop hw)).trans (SameControl.pop hr)

end Sys2Proof.Machine
end

