-- ==== Sys2Proof/Laws/Invariant.lean ====
section
/-! SUPPORT. The invariant `State.wf` and the shared operations: one lemma per operation, that it keeps the invariant. -/
namespace Sys2Proof.Machine

/-- The invariant, part by part. -/
theorem State.wf_iff (s : State) :
    s.wf = true ↔ s.cfg.wf = true ∧ s.pc.toNat < 2 ^ s.cfg.pcBits ∧ s.sp.toNat < s.cfg.spModulus
      ∧ Memory.wf s.flash = true ∧ Memory.wf s.sram = true ∧ Memory.wf s.ioDev = true ∧ Memory.wf s.extDev = true
      ∧ Memory.wf s.pageBuf = true ∧ s.pending.Nodup := by
  simp only [State.wf, Bool.and_eq_true, decide_eq_true_eq, and_assoc]

/-- The invariant says nothing of the other fields. -/
theorem State.wf_of_same {s t : State} (h : s.wf = true) (hc : t.cfg = s.cfg) (hp : t.pc = s.pc) (hs : t.sp = s.sp)
    (hf : t.flash = s.flash) (hm : t.sram = s.sram) (hi : t.ioDev = s.ioDev) (he : t.extDev = s.extDev)
    (hb : t.pageBuf = s.pageBuf) (hq : t.pending = s.pending) : t.wf = true := by
  rw [State.wf_iff] at h ⊢
  rw [hc, hp, hs, hf, hm, hi, he, hb, hq]
  exact h

/-- The bounds on the size of the program counter in an admissible device (spec/00_scope.md R4). -/
theorem Config.wf_pcBits {c : Config} (h : c.wf = true) : 1 ≤ c.pcBits ∧ c.pcBits ≤ 22 ∧ c.flashEnd < 2 ^ c.pcBits := by
  simp only [Config.wf, Bool.and_eq_true, decide_eq_true_eq] at h
  tauto

/-- Every vector and the reset address lie in Program memory (R4). -/
theorem Config.wf_addresses {c : Config} (h : c.wf = true) :
    (∀ v ∈ c.vectors, v.addr ≤ c.flashEnd) ∧ c.resetAddr ≤ c.flashEnd := by
  simp only [Config.wf, Bool.and_eq_true, decide_eq_true_eq, List.all_eq_true] at h
  exact ⟨fun v hv => (h.1.1.2 v hv).2, h.1.2⟩

theorem Config.spModulus_cases (c : Config) :
    (c.spWidth = .eight ∧ c.spModulus = 256) ∨ (c.spWidth = .sixteen ∧ c.spModulus = 65536) := by
  unfold Config.spModulus
  cases c.spWidth <;> decide

theorem State.setReg_wf {s : State} (d : Reg) (v : Byte) (h : s.wf = true) : (s.setReg d v).wf = true :=
  State.wf_of_same h rfl rfl rfl rfl rfl rfl rfl rfl rfl

theorem State.setPair_wf {s : State} (d : Reg) (v : Word16) (h : s.wf = true) : (s.setPair d v).wf = true :=
  State.wf_of_same h rfl rfl rfl rfl rfl rfl rfl rfl rfl

theorem State.setSreg_wf {s : State} (v : Byte) (h : s.wf = true) : (s.setSreg v).wf = true :=
  State.wf_of_same h rfl rfl rfl rfl rfl rfl rfl rfl rfl

theorem State.enableInterrupts_wf {s : State} (h : s.wf = true) : s.enableInterrupts.wf = true :=
  State.wf_of_same h rfl rfl rfl rfl rfl rfl rfl rfl rfl

theorem State.drawByte_wf {s : State} (h : s.wf = true) : s.drawByte.2.wf = true :=
  State.wf_of_same h rfl rfl rfl rfl rfl rfl rfl rfl rfl

theorem State.noteInstr_wf {s : State} (i : Instr) (h : s.wf = true) : (s.noteInstr i).wf = true :=
  State.wf_of_same h rfl rfl rfl rfl rfl rfl rfl rfl rfl

/-- A new program counter is below 2^`PC_BITS` (spec/10_state.md R26). -/
theorem State.setPc_wf {s : State} (n : Nat) (h : s.wf = true) : (s.setPc n).wf = true := by
  rw [State.wf_iff] at h ⊢
  refine ⟨h.1, ?_, h.2.2⟩
  have hb := Config.wf_pcBits h.1
  have hl : n % 2 ^ s.cfg.pcBits < 2 ^ s.cfg.pcBits := Nat.mod_lt _ (by positivity)
  have hu : 2 ^ s.cfg.pcBits ≤ 2 ^ 22 := Nat.pow_le_pow_right (by decide) hb.2.1
  simp only [State.setPc_pc, State.setPc_cfg, BitVec.toNat_ofNat]
  rw [Nat.mod_eq_of_lt (lt_of_lt_of_le hl hu)]
  exact hl

theorem State.advance_wf {s : State} (n : Nat) (h : s.wf = true) : (s.advance n).wf = true := State.setPc_wf _ h

theorem State.finish_wf {s : State} (d : Reg) (v f : Byte) (h : s.wf = true) : (s.finish d v f).wf = true :=
  State.advance_wf _ (State.setSreg_wf _ (State.setReg_wf _ _ h))

theorem State.finishPair_wf {s : State} (d : Reg) (v : Word16) (f : Byte) (h : s.wf = true) :
    (s.finishPair d v f).wf = true :=
  State.advance_wf _ (State.setSreg_wf _ (State.setPair_wf _ _ h))

/-- A new stack pointer is below 2^`SP_BITS` (R31). -/
theorem State.setSp_wf {s : State} (v : BitVec 16) (h : s.wf = true) (hv : v.toNat < s.cfg.spModulus) :
    State.wf { s with sp := v } = true := by
  rw [State.wf_iff] at h ⊢
  exact ⟨h.1, h.2.1, hv, h.2.2.2⟩

theorem spDown_lt (c : Config) (sp : BitVec 16) : (spDown c sp).toNat < c.spModulus := by
  unfold spDown
  rcases Config.spModulus_cases c with ⟨-, h⟩ | ⟨-, h⟩ <;> rw [h] <;> simp only [BitVec.toNat_ofNat] <;> omega

theorem spUp_lt (c : Config) (sp : BitVec 16) : (spUp c sp).toNat < c.spModulus := by
  unfold spUp
  rcases Config.spModulus_cases c with ⟨-, h⟩ | ⟨-, h⟩ <;> rw [h] <;> simp only [BitVec.toNat_ofNat] <;> omega

theorem ioRead_wf {s : State} (a : Fin 64) (h : s.wf = true) : (ioRead s a).2.wf = true := by
  rcases ioRead_state s a with hs | hs <;> rw [hs]
  · exact h
  · exact State.drawByte_wf h

/-- A write of the I/O space keeps the invariant; SPH is written only where SP has 16 bits (R31). -/
theorem ioWrite_wf {s : State} (a : Fin 64) (v : Byte) (h : s.wf = true) : (ioWrite s a v).wf = true := by
  have hsp := ((State.wf_iff s).1 h).2.2.1
  have hk := Config.spModulus_cases s.cfg
  rcases ioWrite_cases s a v with e | e | ⟨hw, e⟩ | e | e | e | e | e | e | e <;> rw [e]
  · exact State.wf_of_same h rfl rfl rfl rfl rfl rfl rfl rfl rfl
  · refine State.setSp_wf _ h ?_
    have hx : (((s.sp >>> 8).setWidth 8 : Byte) ++ v).toNat = s.sp.toNat / 256 % 256 * 256 + v.toNat := by
      rw [BitVec.toNat_append, ← Nat.shiftLeft_add_eq_or_of_lt v.isLt, Nat.shiftLeft_eq]
      simp [Nat.shiftRight_eq_div_pow]
    rw [hx]
    have hv := v.isLt
    rcases hk with ⟨-, hk⟩ | ⟨-, hk⟩ <;> rw [hk] at hsp ⊢ <;> omega
  · refine State.setSp_wf _ h ?_
    rcases hk with ⟨hk, -⟩ | ⟨-, hk⟩
    · rw [hw] at hk; cases hk
    · rw [hk]; exact BitVec.isLt _
  · exact State.wf_of_same h rfl rfl rfl rfl rfl rfl rfl rfl rfl
  · exact State.wf_of_same h rfl rfl rfl rfl rfl rfl rfl rfl rfl
  · exact State.wf_of_same h rfl rfl rfl rfl rfl rfl rfl rfl rfl
  · exact State.wf_of_same h rfl rfl rfl rfl rfl rfl rfl rfl rfl
  · exact State.wf_of_same h rfl rfl rfl rfl rfl rfl rfl rfl rfl
  · rw [State.wf_iff] at h ⊢
    exact ⟨h.1, h.2.1, h.2.2.1, h.2.2.2.1, h.2.2.2.2.1, Memory.write_wf _ _ h.2.2.2.2.2.1, h.2.2.2.2.2.2⟩
  · exact h

theorem ioBitWrite_wf {s : State} (a : Fin 64) (b : BitNum) (on : Bool) (h : s.wf = true) :
    (ioBitWrite s a b on).wf = true := by
  unfold ioBitWrite
  split
  · exact h
  · exact ioWrite_wf _ _ (ioRead_wf _ h)

theorem extWrite_wf {s : State} (a : Nat) (v : Byte) (h : s.wf = true) : (extWrite s a v).wf = true := by
  unfold extWrite
  split
  · rw [State.wf_iff] at h ⊢
    exact ⟨h.1, h.2.1, h.2.2.1, h.2.2.2.1, h.2.2.2.2.1, h.2.2.2.2.2.1, Memory.write_wf _ _ h.2.2.2.2.2.2.1,
      h.2.2.2.2.2.2.2⟩
  · exact h

theorem memRead_wf {s t : State} {a : Nat} {v : Byte} (h : s.wf = true) (hr : memRead s a = .next (v, t)) :
    t.wf = true := by
  rcases memRead_state hr with hs | hs <;> rw [hs]
  · exact h
  · exact State.drawByte_wf h

theorem memWrite_wf {s t : State} {a : Nat} {v : Byte} (h : s.wf = true) (hr : memWrite s a v = .next t) :
    t.wf = true := by
  rcases memWrite_cases hr with ⟨d, -, rfl⟩ | ⟨i, -, rfl⟩ | ⟨-, rfl⟩ | ⟨-, rfl⟩
  · exact State.setReg_wf _ _ h
  · exact ioWrite_wf _ _ h
  · exact extWrite_wf _ _ h
  · rw [State.wf_iff] at h ⊢
    exact ⟨h.1, h.2.1, h.2.2.1, h.2.2.2.1, Memory.write_wf _ _ h.2.2.2.2.1, h.2.2.2.2.2⟩

theorem ptrSet_wf {s : State} (p : Ptr) (n : Nat) (h : s.wf = true) : (ptrSet s p n).wf = true := by
  unfold ptrSet
  split
  · exact State.setReg_wf _ _ h
  · split
    · refine State.setPair_wf _ _ ?_
      cases p <;> exact State.wf_of_same h rfl rfl rfl rfl rfl rfl rfl rfl rfl
    · exact State.setPair_wf _ _ h

theorem push_wf {s t : State} {v : Byte} (h : s.wf = true) (hr : push s v = .next t) : t.wf = true := by
  obtain ⟨u, hu, rfl⟩ := push_eq_next.1 hr
  exact State.setSp_wf _ (memWrite_wf h hu) (spDown_lt _ _)

theorem pop_wf {s t : State} {v : Byte} (h : s.wf = true) (hr : pop s = .next (v, t)) : t.wf = true :=
  memRead_wf (State.setSp_wf _ h (spUp_lt _ _)) (pop_eq_next.1 hr)

theorem pushPc_wf {s t : State} {a : Nat} (h : s.wf = true) (hr : pushPc s a = .next t) : t.wf = true := by
  unfold pushPc at hr
  obtain ⟨u, hu, hr⟩ := Res.andThen_eq_next.1 hr
  obtain ⟨w, hw, hr⟩ := Res.andThen_eq_next.1 hr
  have k := push_wf (push_wf h hu) hw
  split at hr
  · exact push_wf k hr
  · cases hr; exact k

theorem popPc_wf {s t : State} {a : Nat} (h : s.wf = true) (hr : popPc s = .next (a, t)) : t.wf = true := by
  unfold popPc at hr
  obtain ⟨⟨x, u⟩, hu, hr⟩ := Res.andThen_eq_next.1 hr
  obtain ⟨⟨y, w⟩, hw, hr⟩ := Res.andThen_eq_next.1 hr
  obtain ⟨⟨z, r⟩, hz, hr⟩ := Res.andThen_eq_next.1 hr
  have k : u.wf = true := by
    split at hu
    · exact pop_wf h hu
    · cases hu; exact h
  cases hr
  exact pop_wf (pop_wf k hw) hz

theorem acknowledge_wf {s : State} (v : VectorEntry) (h : s.wf = true) : (s.acknowledge v).wf = true := by
  unfold State.acknowledge
  split
  · rw [State.wf_iff] at h ⊢
    exact ⟨h.1, h.2.1, h.2.2.1, h.2.2.2.1, h.2.2.2.2.1, h.2.2.2.2.2.1, h.2.2.2.2.2.2.1, h.2.2.2.2.2.2.2.1,
      h.2.2.2.2.2.2.2.2.filter _⟩
  · exact h

/-- Taking an interrupt keeps the invariant. -/
theorem takeInterrupt_wf {s t : State} {v : VectorEntry} (h : s.wf = true) (hr : takeInterrupt s v = .next t) :
    t.wf = true := by
  obtain ⟨u, hu, hr⟩ := Res.andThen_eq_next.1 hr
  cases hr
  refine acknowledge_wf _ (State.setPc_wf _ (State.setSreg_wf _ (pushPc_wf ?_ hu)))
  exact State.wf_of_same h rfl rfl rfl rfl rfl rfl rfl rfl rfl

/-- Returning from one keeps the invariant. -/
theorem returnFromInterrupt_wf {s t : State} (h : s.wf = true) (hr : returnFromInterrupt s = .next t) :
    t.wf = true := by
  obtain ⟨⟨a, u⟩, hu, hr⟩ := Res.andThen_eq_next.1 hr
  cases hr
  exact State.enableInterrupts_wf (State.setPc_wf _ (popPc_wf h hu))

/-- One SPM keeps the invariant. -/
theorem spmEffect_wf {s : State} (op : SpmOp) (b : Nat) (w : Word16) (h : s.wf = true) :
    (spmEffect s op b w).wf = true := by
  rw [State.wf_iff] at h ⊢
  refine ⟨h.1, h.2.1, h.2.2.1, ?_, h.2.2.2.2.1, h.2.2.2.2.2.1, h.2.2.2.2.2.2.1, ?_, h.2.2.2.2.2.2.2.2⟩
  · show Memory.wf (spmFlash s op b w) = true
    unfold spmFlash
    cases op
    · exact Memory.writeWords_wf _ _ _ h.2.2.2.1
    · exact Memory.writeWord_wf _ _ h.2.2.2.1
    · exact h.2.2.2.1
    · exact Memory.writeWords_wf _ _ _ h.2.2.2.1
    · exact h.2.2.2.1
    · exact h.2.2.2.1
  · show Memory.wf (spmBuffer s op b w) = true
    unfold spmBuffer
    cases op
    · rfl
    · exact h.2.2.2.2.2.2.2.1
    · exact Memory.writeWord_wf _ _ h.2.2.2.2.2.2.2.1
    · rfl
    · exact h.2.2.2.2.2.2.2.1
    · exact h.2.2.2.2.2.2.2.1

/-- An outside event keeps the invariant. -/
theorem applyInput_wf {s : State} (e : Input) (h : s.wf = true) : (s.applyInput e).wf = true := by
  have k := (State.wf_iff s).1 h
  cases e with
  | request n =>
    simp only [State.applyInput]
    split
    · exact h
    · rename_i hn
      rw [State.wf_iff]
      refine ⟨k.1, k.2.1, k.2.2.1, k.2.2.2.1, k.2.2.2.2.1, k.2.2.2.2.2.1, k.2.2.2.2.2.2.1, k.2.2.2.2.2.2.2.1, ?_⟩
      exact List.nodup_cons.2 ⟨by simpa using hn, k.2.2.2.2.2.2.2.2⟩
  | withdraw n =>
    rw [State.wf_iff]
    exact ⟨k.1, k.2.1, k.2.2.1, k.2.2.2.1, k.2.2.2.2.1, k.2.2.2.2.2.1, k.2.2.2.2.2.2.1, k.2.2.2.2.2.2.2.1,
      k.2.2.2.2.2.2.2.2.filter _⟩
  | sleepEnable on => exact State.wf_of_same h rfl rfl rfl rfl rfl rfl rfl rfl rfl
  | ioChange a v =>
    simp only [State.applyInput]
    split
    · rw [State.wf_iff]
      exact ⟨k.1, k.2.1, k.2.2.1, k.2.2.2.1, k.2.2.2.2.1, Memory.write_wf _ _ k.2.2.2.2.2.1, k.2.2.2.2.2.2⟩
    · exact h
  | extChange a v =>
    simp only [State.applyInput]
    split
    · rw [State.wf_iff]
      exact ⟨k.1, k.2.1, k.2.2.1, k.2.2.2.1, k.2.2.2.2.1, k.2.2.2.2.2.1, Memory.write_wf _ _ k.2.2.2.2.2.2.1,
        k.2.2.2.2.2.2.2⟩
    · exact h
  | reset => exact h

end Sys2Proof.Machine
end

