-- ==== Sys2Proof/Laws/PerInstr.lean ====
section
/-! SUPPORT. Facts about every instruction as syntax, one lemma per constructor: another name and the instruction it
names have the same words (spec/30_encoding.md R128), and the first word fits 16 bits. -/
namespace Sys2Proof.Laws

/-- A well-formed instruction and the core instruction it is another name of have the same words (R128). -/
def SameWords.Statement (i : Instr) : Prop := i.wf = true → encode i = encode i.canonical

/-- The encoder of a well-formed instruction stays within 16 bits (R100). -/
def FirstWordFits.Statement (i : Instr) : Prop := i.wf = true → encodeFirst i < 65536

/-! The words of each format fit 16 bits. -/

theorem encRR_lt {op : Nat} (hop : op < 64) (d r : Reg) : encRR op d r < 65536 := by
  unfold encRR; omega

theorem encRI_lt {op : Nat} (hop : op < 16) (d : Reg) (k : BitVec 8) : encRI op d k < 65536 := by
  unfold encRI; omega

theorem encR1_lt {op : Nat} (hop : op < 16) (d : Reg) : encR1 op d < 65536 := by
  unfold encR1; omega

theorem encLdSt_lt {s : Nat} {m : Nat} (hs : s < 2) (hm : m < 16) (d : Reg) : encLdSt s m d < 65536 := by
  unfold encLdSt; omega

theorem encDisp_lt {s : Nat} {y : Nat} (hs : s < 2) (hy : y < 2) (d : Reg) (q : Fin 64) : encDisp s y d q < 65536 := by
  unfold encDisp; omega

theorem encShort_lt {s : Nat} (hs : s < 2) (d : Reg) (k : BitVec 7) : encShort s d k < 65536 := by
  unfold encShort; omega

theorem encIW_lt {o : Nat} (ho : o < 2) (d : Reg) (k : Fin 64) : encIW o d k < 65536 := by
  unfold encIW; omega

theorem encIO_lt {s : Nat} (hs : s < 2) (d : Reg) (a : Fin 64) : encIO s d a < 65536 := by
  unfold encIO; omega

theorem encIoBit_lt {o : Nat} (ho : o < 4) (a : Fin 32) (b : BitNum) : encIoBit o a b < 65536 := by
  unfold encIoBit; omega

theorem encBr_lt {o : Nat} (ho : o < 2) (s : BitNum) (k : BitVec 7) : encBr o s k < 65536 := by
  unfold encBr; omega

theorem encRBit_lt {o : Nat} (ho : o < 4) (d : Reg) (b : BitNum) : encRBit o d b < 65536 := by
  unfold encRBit; omega

theorem encSreg_lt {o : Nat} (ho : o < 2) (s : BitNum) : encSreg o s < 65536 := by
  unfold encSreg; omega

theorem encAbs_lt {o : Nat} (ho : o < 2) (k : BitVec 22) : encAbs o k < 65536 := by
  unfold encAbs; omega

theorem encMul3_lt {o7 : Nat} {o3 : Nat} (ho7 : o7 < 2) (ho3 : o3 < 2) (d r : Reg) : encMul3 o7 o3 d r < 65536 := by
  unfold encMul3; omega

theorem SameWords.add (d : Reg) (r : Reg) : SameWords.Statement (.add d r) := fun _ => rfl
theorem SameWords.adc (d : Reg) (r : Reg) : SameWords.Statement (.adc d r) := fun _ => rfl
theorem SameWords.adiw (d : Reg) (k : Fin 64) : SameWords.Statement (.adiw d k) := fun _ => rfl
theorem SameWords.sub (d : Reg) (r : Reg) : SameWords.Statement (.sub d r) := fun _ => rfl
theorem SameWords.subi (d : Reg) (k : BitVec 8) : SameWords.Statement (.subi d k) := fun _ => rfl
theorem SameWords.sbc (d : Reg) (r : Reg) : SameWords.Statement (.sbc d r) := fun _ => rfl
theorem SameWords.sbci (d : Reg) (k : BitVec 8) : SameWords.Statement (.sbci d k) := fun _ => rfl
theorem SameWords.sbiw (d : Reg) (k : Fin 64) : SameWords.Statement (.sbiw d k) := fun _ => rfl
theorem SameWords.and (d : Reg) (r : Reg) : SameWords.Statement (.and d r) := fun _ => rfl
theorem SameWords.andi (d : Reg) (k : BitVec 8) : SameWords.Statement (.andi d k) := fun _ => rfl
theorem SameWords.or (d : Reg) (r : Reg) : SameWords.Statement (.or d r) := fun _ => rfl
theorem SameWords.ori (d : Reg) (k : BitVec 8) : SameWords.Statement (.ori d k) := fun _ => rfl
theorem SameWords.eor (d : Reg) (r : Reg) : SameWords.Statement (.eor d r) := fun _ => rfl
theorem SameWords.com (d : Reg) : SameWords.Statement (.com d) := fun _ => rfl
theorem SameWords.neg (d : Reg) : SameWords.Statement (.neg d) := fun _ => rfl
theorem SameWords.sbr (d : Reg) (k : BitVec 8) : SameWords.Statement (.sbr d k) := fun _ => rfl
theorem SameWords.cbr (d : Reg) (k : BitVec 8) : SameWords.Statement (.cbr d k) := by
  intro _
  have h : 0xFF#8 - k = ~~~k := by bv_omega
  simp only [encode, encodeFirst, encodeSecond, Instr.canonical, h]
theorem SameWords.inc (d : Reg) : SameWords.Statement (.inc d) := fun _ => rfl
theorem SameWords.dec (d : Reg) : SameWords.Statement (.dec d) := fun _ => rfl
theorem SameWords.tst (d : Reg) : SameWords.Statement (.tst d) := fun _ => rfl
theorem SameWords.clr (d : Reg) : SameWords.Statement (.clr d) := fun _ => rfl
theorem SameWords.ser (d : Reg) : SameWords.Statement (.ser d) := fun _ => rfl
theorem SameWords.mul (d : Reg) (r : Reg) : SameWords.Statement (.mul d r) := fun _ => rfl
theorem SameWords.muls (d : Reg) (r : Reg) : SameWords.Statement (.muls d r) := fun _ => rfl
theorem SameWords.mulsu (d : Reg) (r : Reg) : SameWords.Statement (.mulsu d r) := fun _ => rfl
theorem SameWords.fmul (d : Reg) (r : Reg) : SameWords.Statement (.fmul d r) := fun _ => rfl
theorem SameWords.fmuls (d : Reg) (r : Reg) : SameWords.Statement (.fmuls d r) := fun _ => rfl
theorem SameWords.fmulsu (d : Reg) (r : Reg) : SameWords.Statement (.fmulsu d r) := fun _ => rfl
theorem SameWords.des (k : Fin 16) : SameWords.Statement (.des k) := fun _ => rfl
theorem SameWords.rjmp (k : BitVec 12) : SameWords.Statement (.rjmp k) := fun _ => rfl
theorem SameWords.ijmp : SameWords.Statement (.ijmp) := fun _ => rfl
theorem SameWords.eijmp : SameWords.Statement (.eijmp) := fun _ => rfl
theorem SameWords.jmp (k : BitVec 22) : SameWords.Statement (.jmp k) := fun _ => rfl
theorem SameWords.rcall (k : BitVec 12) : SameWords.Statement (.rcall k) := fun _ => rfl
theorem SameWords.icall : SameWords.Statement (.icall) := fun _ => rfl
theorem SameWords.eicall : SameWords.Statement (.eicall) := fun _ => rfl
theorem SameWords.call (k : BitVec 22) : SameWords.Statement (.call k) := fun _ => rfl
theorem SameWords.ret : SameWords.Statement (.ret) := fun _ => rfl
theorem SameWords.reti : SameWords.Statement (.reti) := fun _ => rfl
theorem SameWords.cpse (d : Reg) (r : Reg) : SameWords.Statement (.cpse d r) := fun _ => rfl
theorem SameWords.cp (d : Reg) (r : Reg) : SameWords.Statement (.cp d r) := fun _ => rfl
theorem SameWords.cpc (d : Reg) (r : Reg) : SameWords.Statement (.cpc d r) := fun _ => rfl
theorem SameWords.cpi (d : Reg) (k : BitVec 8) : SameWords.Statement (.cpi d k) := fun _ => rfl
theorem SameWords.sbrc (r : Reg) (b : BitNum) : SameWords.Statement (.sbrc r b) := fun _ => rfl
theorem SameWords.sbrs (r : Reg) (b : BitNum) : SameWords.Statement (.sbrs r b) := fun _ => rfl
theorem SameWords.sbic (a : Fin 32) (b : BitNum) : SameWords.Statement (.sbic a b) := fun _ => rfl
theorem SameWords.sbis (a : Fin 32) (b : BitNum) : SameWords.Statement (.sbis a b) := fun _ => rfl
theorem SameWords.brbs (b : BitNum) (k : BitVec 7) : SameWords.Statement (.brbs b k) := fun _ => rfl
theorem SameWords.brbc (b : BitNum) (k : BitVec 7) : SameWords.Statement (.brbc b k) := fun _ => rfl
theorem SameWords.breq (k : BitVec 7) : SameWords.Statement (.breq k) := fun _ => rfl
theorem SameWords.brne (k : BitVec 7) : SameWords.Statement (.brne k) := fun _ => rfl
theorem SameWords.brcs (k : BitVec 7) : SameWords.Statement (.brcs k) := fun _ => rfl
theorem SameWords.brcc (k : BitVec 7) : SameWords.Statement (.brcc k) := fun _ => rfl
theorem SameWords.brsh (k : BitVec 7) : SameWords.Statement (.brsh k) := fun _ => rfl
theorem SameWords.brlo (k : BitVec 7) : SameWords.Statement (.brlo k) := fun _ => rfl
theorem SameWords.brmi (k : BitVec 7) : SameWords.Statement (.brmi k) := fun _ => rfl
theorem SameWords.brpl (k : BitVec 7) : SameWords.Statement (.brpl k) := fun _ => rfl
theorem SameWords.brge (k : BitVec 7) : SameWords.Statement (.brge k) := fun _ => rfl
theorem SameWords.brlt (k : BitVec 7) : SameWords.Statement (.brlt k) := fun _ => rfl
theorem SameWords.brhs (k : BitVec 7) : SameWords.Statement (.brhs k) := fun _ => rfl
theorem SameWords.brhc (k : BitVec 7) : SameWords.Statement (.brhc k) := fun _ => rfl
theorem SameWords.brts (k : BitVec 7) : SameWords.Statement (.brts k) := fun _ => rfl
theorem SameWords.brtc (k : BitVec 7) : SameWords.Statement (.brtc k) := fun _ => rfl
theorem SameWords.brvs (k : BitVec 7) : SameWords.Statement (.brvs k) := fun _ => rfl
theorem SameWords.brvc (k : BitVec 7) : SameWords.Statement (.brvc k) := fun _ => rfl
theorem SameWords.brie (k : BitVec 7) : SameWords.Statement (.brie k) := fun _ => rfl
theorem SameWords.brid (k : BitVec 7) : SameWords.Statement (.brid k) := fun _ => rfl
theorem SameWords.mov (d : Reg) (r : Reg) : SameWords.Statement (.mov d r) := fun _ => rfl
theorem SameWords.movw (d : Reg) (r : Reg) : SameWords.Statement (.movw d r) := fun _ => rfl
theorem SameWords.ldi (d : Reg) (k : BitVec 8) : SameWords.Statement (.ldi d k) := fun _ => rfl
theorem SameWords.lds (d : Reg) (k : BitVec 16) : SameWords.Statement (.lds d k) := fun _ => rfl
theorem SameWords.lds16 (d : Reg) (k : BitVec 7) : SameWords.Statement (.lds16 d k) := fun _ => rfl
theorem SameWords.ldX (d : Reg) : SameWords.Statement (.ldX d) := fun _ => rfl
theorem SameWords.ldXInc (d : Reg) : SameWords.Statement (.ldXInc d) := fun _ => rfl
theorem SameWords.ldXDec (d : Reg) : SameWords.Statement (.ldXDec d) := fun _ => rfl
theorem SameWords.ldY (d : Reg) : SameWords.Statement (.ldY d) := fun _ => rfl
theorem SameWords.ldYInc (d : Reg) : SameWords.Statement (.ldYInc d) := fun _ => rfl
theorem SameWords.ldYDec (d : Reg) : SameWords.Statement (.ldYDec d) := fun _ => rfl
theorem SameWords.lddY (d : Reg) (q : Fin 64) : SameWords.Statement (.lddY d q) := fun _ => rfl
theorem SameWords.ldZ (d : Reg) : SameWords.Statement (.ldZ d) := fun _ => rfl
theorem SameWords.ldZInc (d : Reg) : SameWords.Statement (.ldZInc d) := fun _ => rfl
theorem SameWords.ldZDec (d : Reg) : SameWords.Statement (.ldZDec d) := fun _ => rfl
theorem SameWords.lddZ (d : Reg) (q : Fin 64) : SameWords.Statement (.lddZ d q) := fun _ => rfl
theorem SameWords.sts (k : BitVec 16) (r : Reg) : SameWords.Statement (.sts k r) := fun _ => rfl
theorem SameWords.sts16 (k : BitVec 7) (r : Reg) : SameWords.Statement (.sts16 k r) := fun _ => rfl
theorem SameWords.stX (r : Reg) : SameWords.Statement (.stX r) := fun _ => rfl
theorem SameWords.stXInc (r : Reg) : SameWords.Statement (.stXInc r) := fun _ => rfl
theorem SameWords.stXDec (r : Reg) : SameWords.Statement (.stXDec r) := fun _ => rfl
theorem SameWords.stY (r : Reg) : SameWords.Statement (.stY r) := fun _ => rfl
theorem SameWords.stYInc (r : Reg) : SameWords.Statement (.stYInc r) := fun _ => rfl
theorem SameWords.stYDec (r : Reg) : SameWords.Statement (.stYDec r) := fun _ => rfl
theorem SameWords.stdY (q : Fin 64) (r : Reg) : SameWords.Statement (.stdY q r) := fun _ => rfl
theorem SameWords.stZ (r : Reg) : SameWords.Statement (.stZ r) := fun _ => rfl
theorem SameWords.stZInc (r : Reg) : SameWords.Statement (.stZInc r) := fun _ => rfl
theorem SameWords.stZDec (r : Reg) : SameWords.Statement (.stZDec r) := fun _ => rfl
theorem SameWords.stdZ (q : Fin 64) (r : Reg) : SameWords.Statement (.stdZ q r) := fun _ => rfl
theorem SameWords.ioIn (d : Reg) (a : Fin 64) : SameWords.Statement (.ioIn d a) := fun _ => rfl
theorem SameWords.ioOut (a : Fin 64) (r : Reg) : SameWords.Statement (.ioOut a r) := fun _ => rfl
theorem SameWords.push (r : Reg) : SameWords.Statement (.push r) := fun _ => rfl
theorem SameWords.pop (d : Reg) : SameWords.Statement (.pop d) := fun _ => rfl
theorem SameWords.lpmR0 : SameWords.Statement (.lpmR0) := fun _ => rfl
theorem SameWords.lpmZ (d : Reg) : SameWords.Statement (.lpmZ d) := fun _ => rfl
theorem SameWords.lpmZInc (d : Reg) : SameWords.Statement (.lpmZInc d) := fun _ => rfl
theorem SameWords.elpmR0 : SameWords.Statement (.elpmR0) := fun _ => rfl
theorem SameWords.elpmZ (d : Reg) : SameWords.Statement (.elpmZ d) := fun _ => rfl
theorem SameWords.elpmZInc (d : Reg) : SameWords.Statement (.elpmZInc d) := fun _ => rfl
theorem SameWords.spm : SameWords.Statement (.spm) := fun _ => rfl
theorem SameWords.spmZInc : SameWords.Statement (.spmZInc) := fun _ => rfl
theorem SameWords.lsl (d : Reg) : SameWords.Statement (.lsl d) := fun _ => rfl
theorem SameWords.lsr (d : Reg) : SameWords.Statement (.lsr d) := fun _ => rfl
theorem SameWords.rol (d : Reg) : SameWords.Statement (.rol d) := fun _ => rfl
theorem SameWords.ror (d : Reg) : SameWords.Statement (.ror d) := fun _ => rfl
theorem SameWords.asr (d : Reg) : SameWords.Statement (.asr d) := fun _ => rfl
theorem SameWords.swap (d : Reg) : SameWords.Statement (.swap d) := fun _ => rfl
theorem SameWords.bset (b : BitNum) : SameWords.Statement (.bset b) := fun _ => rfl
theorem SameWords.bclr (b : BitNum) : SameWords.Statement (.bclr b) := fun _ => rfl
theorem SameWords.sbi (a : Fin 32) (b : BitNum) : SameWords.Statement (.sbi a b) := fun _ => rfl
theorem SameWords.cbi (a : Fin 32) (b : BitNum) : SameWords.Statement (.cbi a b) := fun _ => rfl
theorem SameWords.bst (d : Reg) (b : BitNum) : SameWords.Statement (.bst d b) := fun _ => rfl
theorem SameWords.bld (d : Reg) (b : BitNum) : SameWords.Statement (.bld d b) := fun _ => rfl
theorem SameWords.sec : SameWords.Statement (.sec) := fun _ => rfl
theorem SameWords.clc : SameWords.Statement (.clc) := fun _ => rfl
theorem SameWords.sen : SameWords.Statement (.sen) := fun _ => rfl
theorem SameWords.cln : SameWords.Statement (.cln) := fun _ => rfl
theorem SameWords.sez : SameWords.Statement (.sez) := fun _ => rfl
theorem SameWords.clz : SameWords.Statement (.clz) := fun _ => rfl
theorem SameWords.sei : SameWords.Statement (.sei) := fun _ => rfl
theorem SameWords.cli : SameWords.Statement (.cli) := fun _ => rfl
theorem SameWords.ses : SameWords.Statement (.ses) := fun _ => rfl
theorem SameWords.cls : SameWords.Statement (.cls) := fun _ => rfl
theorem SameWords.sev : SameWords.Statement (.sev) := fun _ => rfl
theorem SameWords.clv : SameWords.Statement (.clv) := fun _ => rfl
theorem SameWords.setT : SameWords.Statement (.setT) := fun _ => rfl
theorem SameWords.clt : SameWords.Statement (.clt) := fun _ => rfl
theorem SameWords.seh : SameWords.Statement (.seh) := fun _ => rfl
theorem SameWords.clh : SameWords.Statement (.clh) := fun _ => rfl
theorem SameWords.brk : SameWords.Statement (.brk) := fun _ => rfl
theorem SameWords.nop : SameWords.Statement (.nop) := fun _ => rfl
theorem SameWords.sleep : SameWords.Statement (.sleep) := fun _ => rfl
theorem SameWords.wdr : SameWords.Statement (.wdr) := fun _ => rfl

theorem FirstWordFits.add (d : Reg) (r : Reg) : FirstWordFits.Statement (.add d r) := fun _ => encRR_lt (by decide) d r
theorem FirstWordFits.adc (d : Reg) (r : Reg) : FirstWordFits.Statement (.adc d r) := fun _ => encRR_lt (by decide) d r
theorem FirstWordFits.adiw (d : Reg) (k : Fin 64) : FirstWordFits.Statement (.adiw d k) := fun _ => encIW_lt (by decide) d k
theorem FirstWordFits.sub (d : Reg) (r : Reg) : FirstWordFits.Statement (.sub d r) := fun _ => encRR_lt (by decide) d r
theorem FirstWordFits.subi (d : Reg) (k : BitVec 8) : FirstWordFits.Statement (.subi d k) := fun _ => encRI_lt (by decide) d k
theorem FirstWordFits.sbc (d : Reg) (r : Reg) : FirstWordFits.Statement (.sbc d r) := fun _ => encRR_lt (by decide) d r
theorem FirstWordFits.sbci (d : Reg) (k : BitVec 8) : FirstWordFits.Statement (.sbci d k) := fun _ => encRI_lt (by decide) d k
theorem FirstWordFits.sbiw (d : Reg) (k : Fin 64) : FirstWordFits.Statement (.sbiw d k) := fun _ => encIW_lt (by decide) d k
theorem FirstWordFits.and (d : Reg) (r : Reg) : FirstWordFits.Statement (.and d r) := fun _ => encRR_lt (by decide) d r
theorem FirstWordFits.andi (d : Reg) (k : BitVec 8) : FirstWordFits.Statement (.andi d k) := fun _ => encRI_lt (by decide) d k
theorem FirstWordFits.or (d : Reg) (r : Reg) : FirstWordFits.Statement (.or d r) := fun _ => encRR_lt (by decide) d r
theorem FirstWordFits.ori (d : Reg) (k : BitVec 8) : FirstWordFits.Statement (.ori d k) := fun _ => encRI_lt (by decide) d k
theorem FirstWordFits.eor (d : Reg) (r : Reg) : FirstWordFits.Statement (.eor d r) := fun _ => encRR_lt (by decide) d r
theorem FirstWordFits.com (d : Reg) : FirstWordFits.Statement (.com d) := fun _ => encR1_lt (by decide) d
theorem FirstWordFits.neg (d : Reg) : FirstWordFits.Statement (.neg d) := fun _ => encR1_lt (by decide) d
theorem FirstWordFits.sbr (d : Reg) (k : BitVec 8) : FirstWordFits.Statement (.sbr d k) := fun _ => encRI_lt (by decide) d k
theorem FirstWordFits.cbr (d : Reg) (k : BitVec 8) : FirstWordFits.Statement (.cbr d k) := fun _ => encRI_lt (by decide) d (0xFF#8 - k)
theorem FirstWordFits.inc (d : Reg) : FirstWordFits.Statement (.inc d) := fun _ => encR1_lt (by decide) d
theorem FirstWordFits.dec (d : Reg) : FirstWordFits.Statement (.dec d) := fun _ => encR1_lt (by decide) d
theorem FirstWordFits.tst (d : Reg) : FirstWordFits.Statement (.tst d) := fun _ => encRR_lt (by decide) d d
theorem FirstWordFits.clr (d : Reg) : FirstWordFits.Statement (.clr d) := fun _ => encRR_lt (by decide) d d
theorem FirstWordFits.ser (d : Reg) : FirstWordFits.Statement (.ser d) := fun _ => encRI_lt (by decide) d 0xFF#8
theorem FirstWordFits.mul (d : Reg) (r : Reg) : FirstWordFits.Statement (.mul d r) := fun _ => encRR_lt (by decide) d r
theorem FirstWordFits.muls (d : Reg) (r : Reg) : FirstWordFits.Statement (.muls d r) := fun _ => by show 0x0200 + (d.val - 16) * 16 + (r.val - 16) < 65536; omega
theorem FirstWordFits.mulsu (d : Reg) (r : Reg) : FirstWordFits.Statement (.mulsu d r) := fun _ => encMul3_lt (by decide) (by decide) d r
theorem FirstWordFits.fmul (d : Reg) (r : Reg) : FirstWordFits.Statement (.fmul d r) := fun _ => encMul3_lt (by decide) (by decide) d r
theorem FirstWordFits.fmuls (d : Reg) (r : Reg) : FirstWordFits.Statement (.fmuls d r) := fun _ => encMul3_lt (by decide) (by decide) d r
theorem FirstWordFits.fmulsu (d : Reg) (r : Reg) : FirstWordFits.Statement (.fmulsu d r) := fun _ => encMul3_lt (by decide) (by decide) d r
theorem FirstWordFits.des (k : Fin 16) : FirstWordFits.Statement (.des k) := fun _ => by show 0x940B + k.val * 16 < 65536; omega
theorem FirstWordFits.rjmp (k : BitVec 12) : FirstWordFits.Statement (.rjmp k) := fun _ => by show 0xC000 + k.toNat < 65536; omega
theorem FirstWordFits.ijmp : FirstWordFits.Statement (.ijmp) := fun _ => by decide
theorem FirstWordFits.eijmp : FirstWordFits.Statement (.eijmp) := fun _ => by decide
theorem FirstWordFits.jmp (k : BitVec 22) : FirstWordFits.Statement (.jmp k) := fun _ => encAbs_lt (by decide) k
theorem FirstWordFits.rcall (k : BitVec 12) : FirstWordFits.Statement (.rcall k) := fun _ => by show 0xD000 + k.toNat < 65536; omega
theorem FirstWordFits.icall : FirstWordFits.Statement (.icall) := fun _ => by decide
theorem FirstWordFits.eicall : FirstWordFits.Statement (.eicall) := fun _ => by decide
theorem FirstWordFits.call (k : BitVec 22) : FirstWordFits.Statement (.call k) := fun _ => encAbs_lt (by decide) k
theorem FirstWordFits.ret : FirstWordFits.Statement (.ret) := fun _ => by decide
theorem FirstWordFits.reti : FirstWordFits.Statement (.reti) := fun _ => by decide
theorem FirstWordFits.cpse (d : Reg) (r : Reg) : FirstWordFits.Statement (.cpse d r) := fun _ => encRR_lt (by decide) d r
theorem FirstWordFits.cp (d : Reg) (r : Reg) : FirstWordFits.Statement (.cp d r) := fun _ => encRR_lt (by decide) d r
theorem FirstWordFits.cpc (d : Reg) (r : Reg) : FirstWordFits.Statement (.cpc d r) := fun _ => encRR_lt (by decide) d r
theorem FirstWordFits.cpi (d : Reg) (k : BitVec 8) : FirstWordFits.Statement (.cpi d k) := fun _ => encRI_lt (by decide) d k
theorem FirstWordFits.sbrc (r : Reg) (b : BitNum) : FirstWordFits.Statement (.sbrc r b) := fun _ => encRBit_lt (by decide) r b
theorem FirstWordFits.sbrs (r : Reg) (b : BitNum) : FirstWordFits.Statement (.sbrs r b) := fun _ => encRBit_lt (by decide) r b
theorem FirstWordFits.sbic (a : Fin 32) (b : BitNum) : FirstWordFits.Statement (.sbic a b) := fun _ => encIoBit_lt (by decide) a b
theorem FirstWordFits.sbis (a : Fin 32) (b : BitNum) : FirstWordFits.Statement (.sbis a b) := fun _ => encIoBit_lt (by decide) a b
theorem FirstWordFits.brbs (b : BitNum) (k : BitVec 7) : FirstWordFits.Statement (.brbs b k) := fun _ => encBr_lt (by decide) b k
theorem FirstWordFits.brbc (b : BitNum) (k : BitVec 7) : FirstWordFits.Statement (.brbc b k) := fun _ => encBr_lt (by decide) b k
theorem FirstWordFits.breq (k : BitVec 7) : FirstWordFits.Statement (.breq k) := fun _ => encBr_lt (by decide) 1 k
theorem FirstWordFits.brne (k : BitVec 7) : FirstWordFits.Statement (.brne k) := fun _ => encBr_lt (by decide) 1 k
theorem FirstWordFits.brcs (k : BitVec 7) : FirstWordFits.Statement (.brcs k) := fun _ => encBr_lt (by decide) 0 k
theorem FirstWordFits.brcc (k : BitVec 7) : FirstWordFits.Statement (.brcc k) := fun _ => encBr_lt (by decide) 0 k
theorem FirstWordFits.brsh (k : BitVec 7) : FirstWordFits.Statement (.brsh k) := fun _ => encBr_lt (by decide) 0 k
theorem FirstWordFits.brlo (k : BitVec 7) : FirstWordFits.Statement (.brlo k) := fun _ => encBr_lt (by decide) 0 k
theorem FirstWordFits.brmi (k : BitVec 7) : FirstWordFits.Statement (.brmi k) := fun _ => encBr_lt (by decide) 2 k
theorem FirstWordFits.brpl (k : BitVec 7) : FirstWordFits.Statement (.brpl k) := fun _ => encBr_lt (by decide) 2 k
theorem FirstWordFits.brge (k : BitVec 7) : FirstWordFits.Statement (.brge k) := fun _ => encBr_lt (by decide) 4 k
theorem FirstWordFits.brlt (k : BitVec 7) : FirstWordFits.Statement (.brlt k) := fun _ => encBr_lt (by decide) 4 k
theorem FirstWordFits.brhs (k : BitVec 7) : FirstWordFits.Statement (.brhs k) := fun _ => encBr_lt (by decide) 5 k
theorem FirstWordFits.brhc (k : BitVec 7) : FirstWordFits.Statement (.brhc k) := fun _ => encBr_lt (by decide) 5 k
theorem FirstWordFits.brts (k : BitVec 7) : FirstWordFits.Statement (.brts k) := fun _ => encBr_lt (by decide) 6 k
theorem FirstWordFits.brtc (k : BitVec 7) : FirstWordFits.Statement (.brtc k) := fun _ => encBr_lt (by decide) 6 k
theorem FirstWordFits.brvs (k : BitVec 7) : FirstWordFits.Statement (.brvs k) := fun _ => encBr_lt (by decide) 3 k
theorem FirstWordFits.brvc (k : BitVec 7) : FirstWordFits.Statement (.brvc k) := fun _ => encBr_lt (by decide) 3 k
theorem FirstWordFits.brie (k : BitVec 7) : FirstWordFits.Statement (.brie k) := fun _ => encBr_lt (by decide) 7 k
theorem FirstWordFits.brid (k : BitVec 7) : FirstWordFits.Statement (.brid k) := fun _ => encBr_lt (by decide) 7 k
theorem FirstWordFits.mov (d : Reg) (r : Reg) : FirstWordFits.Statement (.mov d r) := fun _ => encRR_lt (by decide) d r
theorem FirstWordFits.movw (d : Reg) (r : Reg) : FirstWordFits.Statement (.movw d r) := fun _ => by show 0x0100 + d.val / 2 * 16 + r.val / 2 < 65536; omega
theorem FirstWordFits.ldi (d : Reg) (k : BitVec 8) : FirstWordFits.Statement (.ldi d k) := fun _ => encRI_lt (by decide) d k
theorem FirstWordFits.lds (d : Reg) (k : BitVec 16) : FirstWordFits.Statement (.lds d k) := fun _ => encLdSt_lt (by decide) (by decide) d
theorem FirstWordFits.lds16 (d : Reg) (k : BitVec 7) : FirstWordFits.Statement (.lds16 d k) := fun _ => encShort_lt (by decide) d k
theorem FirstWordFits.ldX (d : Reg) : FirstWordFits.Statement (.ldX d) := fun _ => encLdSt_lt (by decide) (by decide) d
theorem FirstWordFits.ldXInc (d : Reg) : FirstWordFits.Statement (.ldXInc d) := fun _ => encLdSt_lt (by decide) (by decide) d
theorem FirstWordFits.ldXDec (d : Reg) : FirstWordFits.Statement (.ldXDec d) := fun _ => encLdSt_lt (by decide) (by decide) d
theorem FirstWordFits.ldY (d : Reg) : FirstWordFits.Statement (.ldY d) := fun _ => encDisp_lt (by decide) (by decide) d 0
theorem FirstWordFits.ldYInc (d : Reg) : FirstWordFits.Statement (.ldYInc d) := fun _ => encLdSt_lt (by decide) (by decide) d
theorem FirstWordFits.ldYDec (d : Reg) : FirstWordFits.Statement (.ldYDec d) := fun _ => encLdSt_lt (by decide) (by decide) d
theorem FirstWordFits.lddY (d : Reg) (q : Fin 64) : FirstWordFits.Statement (.lddY d q) := fun _ => encDisp_lt (by decide) (by decide) d q
theorem FirstWordFits.ldZ (d : Reg) : FirstWordFits.Statement (.ldZ d) := fun _ => encDisp_lt (by decide) (by decide) d 0
theorem FirstWordFits.ldZInc (d : Reg) : FirstWordFits.Statement (.ldZInc d) := fun _ => encLdSt_lt (by decide) (by decide) d
theorem FirstWordFits.ldZDec (d : Reg) : FirstWordFits.Statement (.ldZDec d) := fun _ => encLdSt_lt (by decide) (by decide) d
theorem FirstWordFits.lddZ (d : Reg) (q : Fin 64) : FirstWordFits.Statement (.lddZ d q) := fun _ => encDisp_lt (by decide) (by decide) d q
theorem FirstWordFits.sts (k : BitVec 16) (r : Reg) : FirstWordFits.Statement (.sts k r) := fun _ => encLdSt_lt (by decide) (by decide) r
theorem FirstWordFits.sts16 (k : BitVec 7) (r : Reg) : FirstWordFits.Statement (.sts16 k r) := fun _ => encShort_lt (by decide) r k
theorem FirstWordFits.stX (r : Reg) : FirstWordFits.Statement (.stX r) := fun _ => encLdSt_lt (by decide) (by decide) r
theorem FirstWordFits.stXInc (r : Reg) : FirstWordFits.Statement (.stXInc r) := fun _ => encLdSt_lt (by decide) (by decide) r
theorem FirstWordFits.stXDec (r : Reg) : FirstWordFits.Statement (.stXDec r) := fun _ => encLdSt_lt (by decide) (by decide) r
theorem FirstWordFits.stY (r : Reg) : FirstWordFits.Statement (.stY r) := fun _ => encDisp_lt (by decide) (by decide) r 0
theorem FirstWordFits.stYInc (r : Reg) : FirstWordFits.Statement (.stYInc r) := fun _ => encLdSt_lt (by decide) (by decide) r
theorem FirstWordFits.stYDec (r : Reg) : FirstWordFits.Statement (.stYDec r) := fun _ => encLdSt_lt (by decide) (by decide) r
theorem FirstWordFits.stdY (q : Fin 64) (r : Reg) : FirstWordFits.Statement (.stdY q r) := fun _ => encDisp_lt (by decide) (by decide) r q
theorem FirstWordFits.stZ (r : Reg) : FirstWordFits.Statement (.stZ r) := fun _ => encDisp_lt (by decide) (by decide) r 0
theorem FirstWordFits.stZInc (r : Reg) : FirstWordFits.Statement (.stZInc r) := fun _ => encLdSt_lt (by decide) (by decide) r
theorem FirstWordFits.stZDec (r : Reg) : FirstWordFits.Statement (.stZDec r) := fun _ => encLdSt_lt (by decide) (by decide) r
theorem FirstWordFits.stdZ (q : Fin 64) (r : Reg) : FirstWordFits.Statement (.stdZ q r) := fun _ => encDisp_lt (by decide) (by decide) r q
theorem FirstWordFits.ioIn (d : Reg) (a : Fin 64) : FirstWordFits.Statement (.ioIn d a) := fun _ => encIO_lt (by decide) d a
theorem FirstWordFits.ioOut (a : Fin 64) (r : Reg) : FirstWordFits.Statement (.ioOut a r) := fun _ => encIO_lt (by decide) r a
theorem FirstWordFits.push (r : Reg) : FirstWordFits.Statement (.push r) := fun _ => encLdSt_lt (by decide) (by decide) r
theorem FirstWordFits.pop (d : Reg) : FirstWordFits.Statement (.pop d) := fun _ => encLdSt_lt (by decide) (by decide) d
theorem FirstWordFits.lpmR0 : FirstWordFits.Statement (.lpmR0) := fun _ => by decide
theorem FirstWordFits.lpmZ (d : Reg) : FirstWordFits.Statement (.lpmZ d) := fun _ => encLdSt_lt (by decide) (by decide) d
theorem FirstWordFits.lpmZInc (d : Reg) : FirstWordFits.Statement (.lpmZInc d) := fun _ => encLdSt_lt (by decide) (by decide) d
theorem FirstWordFits.elpmR0 : FirstWordFits.Statement (.elpmR0) := fun _ => by decide
theorem FirstWordFits.elpmZ (d : Reg) : FirstWordFits.Statement (.elpmZ d) := fun _ => encLdSt_lt (by decide) (by decide) d
theorem FirstWordFits.elpmZInc (d : Reg) : FirstWordFits.Statement (.elpmZInc d) := fun _ => encLdSt_lt (by decide) (by decide) d
theorem FirstWordFits.spm : FirstWordFits.Statement (.spm) := fun _ => by decide
theorem FirstWordFits.spmZInc : FirstWordFits.Statement (.spmZInc) := fun _ => by decide
theorem FirstWordFits.lsl (d : Reg) : FirstWordFits.Statement (.lsl d) := fun _ => encRR_lt (by decide) d d
theorem FirstWordFits.lsr (d : Reg) : FirstWordFits.Statement (.lsr d) := fun _ => encR1_lt (by decide) d
theorem FirstWordFits.rol (d : Reg) : FirstWordFits.Statement (.rol d) := fun _ => encRR_lt (by decide) d d
theorem FirstWordFits.ror (d : Reg) : FirstWordFits.Statement (.ror d) := fun _ => encR1_lt (by decide) d
theorem FirstWordFits.asr (d : Reg) : FirstWordFits.Statement (.asr d) := fun _ => encR1_lt (by decide) d
theorem FirstWordFits.swap (d : Reg) : FirstWordFits.Statement (.swap d) := fun _ => encR1_lt (by decide) d
theorem FirstWordFits.bset (b : BitNum) : FirstWordFits.Statement (.bset b) := fun _ => encSreg_lt (by decide) b
theorem FirstWordFits.bclr (b : BitNum) : FirstWordFits.Statement (.bclr b) := fun _ => encSreg_lt (by decide) b
theorem FirstWordFits.sbi (a : Fin 32) (b : BitNum) : FirstWordFits.Statement (.sbi a b) := fun _ => encIoBit_lt (by decide) a b
theorem FirstWordFits.cbi (a : Fin 32) (b : BitNum) : FirstWordFits.Statement (.cbi a b) := fun _ => encIoBit_lt (by decide) a b
theorem FirstWordFits.bst (d : Reg) (b : BitNum) : FirstWordFits.Statement (.bst d b) := fun _ => encRBit_lt (by decide) d b
theorem FirstWordFits.bld (d : Reg) (b : BitNum) : FirstWordFits.Statement (.bld d b) := fun _ => encRBit_lt (by decide) d b
theorem FirstWordFits.sec : FirstWordFits.Statement (.sec) := fun _ => encSreg_lt (by decide) 0
theorem FirstWordFits.clc : FirstWordFits.Statement (.clc) := fun _ => encSreg_lt (by decide) 0
theorem FirstWordFits.sen : FirstWordFits.Statement (.sen) := fun _ => encSreg_lt (by decide) 2
theorem FirstWordFits.cln : FirstWordFits.Statement (.cln) := fun _ => encSreg_lt (by decide) 2
theorem FirstWordFits.sez : FirstWordFits.Statement (.sez) := fun _ => encSreg_lt (by decide) 1
theorem FirstWordFits.clz : FirstWordFits.Statement (.clz) := fun _ => encSreg_lt (by decide) 1
theorem FirstWordFits.sei : FirstWordFits.Statement (.sei) := fun _ => encSreg_lt (by decide) 7
theorem FirstWordFits.cli : FirstWordFits.Statement (.cli) := fun _ => encSreg_lt (by decide) 7
theorem FirstWordFits.ses : FirstWordFits.Statement (.ses) := fun _ => encSreg_lt (by decide) 4
theorem FirstWordFits.cls : FirstWordFits.Statement (.cls) := fun _ => encSreg_lt (by decide) 4
theorem FirstWordFits.sev : FirstWordFits.Statement (.sev) := fun _ => encSreg_lt (by decide) 3
theorem FirstWordFits.clv : FirstWordFits.Statement (.clv) := fun _ => encSreg_lt (by decide) 3
theorem FirstWordFits.setT : FirstWordFits.Statement (.setT) := fun _ => encSreg_lt (by decide) 6
theorem FirstWordFits.clt : FirstWordFits.Statement (.clt) := fun _ => encSreg_lt (by decide) 6
theorem FirstWordFits.seh : FirstWordFits.Statement (.seh) := fun _ => encSreg_lt (by decide) 5
theorem FirstWordFits.clh : FirstWordFits.Statement (.clh) := fun _ => encSreg_lt (by decide) 5
theorem FirstWordFits.brk : FirstWordFits.Statement (.brk) := fun _ => by decide
theorem FirstWordFits.nop : FirstWordFits.Statement (.nop) := fun _ => by decide
theorem FirstWordFits.sleep : FirstWordFits.Statement (.sleep) := fun _ => by decide
theorem FirstWordFits.wdr : FirstWordFits.Statement (.wdr) := fun _ => by decide

end Sys2Proof.Laws
end

