-- ==== Sys2Proof/Laws/Step.lean ====
section
/-! SUPPORT. What stands around one instruction, said once: what outside events leave alone, when no interrupt is due, and
how a step begins and runs its instruction. -/
namespace Sys2Proof.Machine

/-- An outside event touches the pending requests, the sleep enable and the device locations, and nothing else; a request
is pending after it only if it was before, or is the one the event raises (R423). -/
theorem applyInput_same (s : State) (x : Input) :
    (∃ p e i d, s.applyInput x = { s with pending := p, sleepEnabled := e, ioDev := i, extDev := d })
      ∧ ∀ m ∈ (s.applyInput x).pending, m ∈ s.pending ∨ x = .request m := by
  cases x with
  | request n =>
    simp only [State.applyInput]
    split
    · exact ⟨⟨_, _, _, _, rfl⟩, fun m h => .inl h⟩
    · exact ⟨⟨_, _, _, _, rfl⟩, fun m h => by
        rcases List.mem_cons.1 h with h | h
        · exact .inr (by rw [h])
        · exact .inl h⟩
  | withdraw n => exact ⟨⟨_, _, _, _, rfl⟩, fun m h => .inl (List.mem_filter.1 h).1⟩
  | sleepEnable on => exact ⟨⟨_, _, _, _, rfl⟩, fun m h => .inl h⟩
  | ioChange a v =>
    simp only [State.applyInput]
    split <;> exact ⟨⟨_, _, _, _, rfl⟩, fun m h => .inl h⟩
  | extChange a v =>
    simp only [State.applyInput]
    split <;> exact ⟨⟨_, _, _, _, rfl⟩, fun m h => .inl h⟩
  | reset => exact ⟨⟨_, _, _, _, rfl⟩, fun m h => .inl h⟩

/-- The events of a step together, as `applyInput_same` says of one. -/
theorem applyInputs_same (e : List Input) (s : State) :
    (∃ p f i d, e.foldl State.applyInput s = { s with pending := p, sleepEnabled := f, ioDev := i, extDev := d })
      ∧ ∀ m ∈ (e.foldl State.applyInput s).pending, m ∈ s.pending ∨ .request m ∈ e := by
  induction e generalizing s with
  | nil => exact ⟨⟨_, _, _, _, rfl⟩, fun m h => .inl h⟩
  | cons x e ih =>
    obtain ⟨⟨p, f, i, d, h⟩, hp⟩ := ih (s.applyInput x)
    obtain ⟨⟨p', f', i', d', h'⟩, hp'⟩ := applyInput_same s x
    refine ⟨⟨p, f, i, d, by rw [List.foldl_cons, h, h']⟩, fun m hm => ?_⟩
    rcases hp m hm with k | k
    · rcases hp' m k with k | k
      · exact .inl k
      · exact .inr (by simp [k])
    · exact .inr (List.mem_cons_of_mem _ k)

/-- With I clear no interrupt is due (R405). -/
theorem dueInterrupt_of_clear {s : State} (h : s.sreg.getLsbD 7 = false) : s.dueInterrupt = none := by
  unfold State.dueInterrupt
  rw [if_neg]
  rintro ⟨_, k, _⟩
  rw [h] at k
  exact absurd k (by simp)

/-- While interrupts are held off none is due (R405). -/
theorem dueInterrupt_of_inhibit {s : State} (h : s.inhibit = true) : s.dueInterrupt = none := by
  unfold State.dueInterrupt
  rw [if_neg]
  simp [h]

/-- With no request pending that `VECTORS` serves none is due (R405). -/
theorem dueInterrupt_of_none {s : State} (h : ∀ v ∈ s.cfg.vectors, v.num ∉ s.pending) : s.dueInterrupt = none := by
  unfold State.dueInterrupt
  split
  · unfold State.nextRequest
    rw [List.find?_eq_none]
    simpa using h
  · rfl

/-- A step whose events hold no reset: the events, then the order of R11. -/
theorem beginStep_of_no_reset {s : State} (h : Input.reset ∉ s.inputs.headD []) :
    s.beginStep = ((s.inputs.headD []).foldl State.applyInput { s with inputs := s.inputs.tail }).plan := by
  unfold State.beginStep State.takeInputs
  cases hi : s.inputs with
  | nil =>
    have hs : { s with inputs := [] } = s := by rw [← hi]
    simp [hs]
  | cons e r =>
    rw [hi] at h
    simp only [List.headD_cons] at h
    simp [h]

/-- A step of a running core that nothing disturbs runs the instruction it fetches, with the hold-off cleared (R11). -/
theorem step_runs {s : State} (hq : s.quiet) (hr : s.run = .running) (hd : s.dueInterrupt = none) :
    step s = (fetchInstr s).andThen fun i =>
      exec i (State.noteInstr { s with inputs := s.inputs.tail, inhibit := false } i) := by
  have hq : s.inputs.headD [] = [] := hq
  have hb := beginStep_of_no_reset (s := s) (by rw [hq]; simp)
  rw [hq, List.foldl_nil] at hb
  unfold step
  rw [hb]
  unfold State.plan
  rw [if_neg (by show ¬s.run = _; rw [hr]; simp)]
  have hd' : State.dueInterrupt { s with inputs := s.inputs.tail } = none := hd
  simp only [hd']
  rw [if_neg (by rw [hr]; simp)]
  rfl

end Sys2Proof.Machine
end

