-- ==== Sys2Proof/Machine/Timing.lean ====
section
/-! DEFINITION. The clock counts of spec/70_reset_and_hazards.md R460, as a function beside the machine: no rule of
behaviour depends on them (R462), so no state holds elapsed time (log 25). -/
namespace Sys2Proof.Machine

/-- One figure for each column of the table of R460; `none` is "n/a". -/
structure Clocks where
  classic : Option Nat
  xmega : Option Nat
  tiny10 : Option Nat
  deriving DecidableEq, Repr

/-- The figure of a column. -/
def Clocks.column (c : Clocks) : CoreTiming → Option Nat
  | .classic => c.classic
  | .xmega => c.xmega
  | .tiny10 => c.tiny10

/-- The same figure in all three columns. -/
def clocksSame (n : Nat) : Clocks := ⟨some n, some n, some n⟩

/-- The same figure for classic and XMEGA, none for the reduced core. -/
def clocksNoTiny (n : Nat) : Clocks := ⟨some n, some n, none⟩

/-- How many words a skip instruction skips from `s`: `SkipLen()` when its condition holds, else none (R200, R460). It is read off
the word that is measured, not off the pc, which may wrap. -/
def skippedWords (s : State) (cond : Bool) : Nat :=
  if cond then
    match skipLen s with
    | .next n => n
    | .fault _ => 0
    | .refused _ => 0
  else 0

/-- One clock, plus one for each word skipped (R460). -/
def clocksSkip (s : State) (cond : Bool) : Clocks := clocksSame (1 + skippedWords s cond)

/-- The skips on an I/O location, one more on an XMEGA device (R460). -/
def clocksSkipIo (s : State) (cond : Bool) : Clocks :=
  let n := 1 + skippedWords s cond
  ⟨some n, some (n + 1), some n⟩

/-- A conditional branch: 2 when its condition is true, else 1 (R460). -/
def clocksBranch (cond : Bool) : Clocks := clocksSame (if cond then 2 else 1)

/-- One more on an XMEGA device when the access is to internal SRAM (R460, note 4). -/
def sramClock (s : State) (a : Nat) : Nat := if dataPlace s.cfg a = .sram then 1 else 0

/-- LD Rd,P: the reduced core takes 1 from data memory and 2 from Program memory (R460). -/
def clocksLoad (s : State) (p : Ptr) : Clocks :=
  let a := ptrGet s p
  ⟨some 2, some (1 + sramClock s a),
    match dataPlace s.cfg a with
    | .flash _ => some 2
    | _ => some 1⟩

/-- LD Rd,P+ (R460). -/
def clocksLoadInc (s : State) (p : Ptr) : Clocks := ⟨some 2, some (1 + sramClock s (ptrGet s p)), some 2⟩

/-- LD Rd,-P (R460). -/
def clocksLoadDec (s : State) (p : Ptr) : Clocks := ⟨some 2, some (2 + sramClock s (ptrDown s p)), some 3⟩

/-- LDD Rd,P+q with q ≠ 0 (R460). -/
def clocksLoadDisp (s : State) (p : Ptr) (q : Fin 64) : Clocks := ⟨some 2, some (2 + sramClock s (ptrDisp s p q)), none⟩

/-- ST P,Rr and ST P+,Rr (R460). -/
def clocksStore : Clocks := ⟨some 2, some 1, some 1⟩

/-- A call with `n` clocks on a 16-bit pc and one more on a 22-bit pc; XMEGA takes one less (R460). -/
def clocksCall (s : State) (n : Nat) (tiny : Option Nat) : Clocks :=
  let m := if s.cfg.pcBytes = 3 then n + 1 else n
  ⟨some m, some (m - 1), tiny⟩

/-- The row of R460 for an instruction that runs to completion from `s`. A word of displacement 0 is both LD Rd,P and
LDD Rd,P+0, or both ST P,Rr and STD P+0,Rr, and the xmega column gives the two rows different figures; the model takes the row
of LD and ST for it in every column (DESIGN CHOICE, log 37). -/
def clockRow (s : State) (i : Instr) : Clocks :=
  match i with
  | .add _ _ | .adc _ _ | .sub _ _ | .subi _ _ | .sbc _ _ | .sbci _ _ | .and _ _ | .andi _ _ | .or _ _ | .ori _ _
  | .eor _ _ | .com _ | .neg _ | .sbr _ _ | .cbr _ _ | .inc _ | .dec _ | .tst _ | .clr _ | .ser _
  | .cp _ _ | .cpc _ _ | .cpi _ _ => clocksSame 1
  | .adiw _ _ | .sbiw _ _ => clocksNoTiny 2
  | .mul _ _ | .muls _ _ | .mulsu _ _ | .fmul _ _ | .fmuls _ _ | .fmulsu _ _ => clocksNoTiny 2
  | .des _ => clocksNoTiny (if s.prevDes then 1 else 2)
  | .rjmp _ | .ijmp | .eijmp => clocksSame 2
  | .jmp _ => clocksNoTiny 3
  | .rcall _ => clocksCall s 3 (some 4)
  | .icall => clocksCall s 3 (if s.cfg.pcBytes = 3 then some 4 else some 3)
  | .eicall => ⟨some 4, some 3, none⟩
  | .call _ => clocksCall s 4 none
  | .ret | .reti => clocksSame (if s.cfg.pcBytes = 3 then 5 else 4)
  | .cpse d r => clocksSkip s (s.reg d == s.reg r)
  | .sbrc r b => clocksSkip s (!(s.reg r).getLsbD b.val)
  | .sbrs r b => clocksSkip s ((s.reg r).getLsbD b.val)
  | .sbic a b => clocksSkipIo s (!(ioRead s (lowIo a)).1.getLsbD b.val)
  | .sbis a b => clocksSkipIo s ((ioRead s (lowIo a)).1.getLsbD b.val)
  | .brbs b _ => clocksBranch (s.sreg.getLsbD b.val)
  | .brbc b _ => clocksBranch (!s.sreg.getLsbD b.val)
  | .breq _ => clocksBranch (s.flag .z)
  | .brne _ => clocksBranch (!s.flag .z)
  | .brcs _ | .brlo _ => clocksBranch (s.flag .c)
  | .brcc _ | .brsh _ => clocksBranch (!s.flag .c)
  | .brmi _ => clocksBranch (s.flag .n)
  | .brpl _ => clocksBranch (!s.flag .n)
  | .brge _ => clocksBranch (!s.flag .s)
  | .brlt _ => clocksBranch (s.flag .s)
  | .brhs _ => clocksBranch (s.flag .h)
  | .brhc _ => clocksBranch (!s.flag .h)
  | .brts _ => clocksBranch (s.flag .t)
  | .brtc _ => clocksBranch (!s.flag .t)
  | .brvs _ => clocksBranch (s.flag .v)
  | .brvc _ => clocksBranch (!s.flag .v)
  | .brie _ => clocksBranch (s.flag .i)
  | .brid _ => clocksBranch (!s.flag .i)
  | .mov _ _ | .movw _ _ | .ldi _ _ | .ioIn _ _ | .ioOut _ _ => clocksSame 1
  | .lds _ k => ⟨some 2, some (2 + sramClock s (directAddr s k)), none⟩
  | .lds16 _ _ | .sts16 _ _ => ⟨none, none, some 1⟩
  | .ldX _ => clocksLoad s .x
  | .ldY _ => clocksLoad s .y
  | .ldZ _ => clocksLoad s .z
  | .ldXInc _ => clocksLoadInc s .x
  | .ldYInc _ => clocksLoadInc s .y
  | .ldZInc _ => clocksLoadInc s .z
  | .ldXDec _ => clocksLoadDec s .x
  | .ldYDec _ => clocksLoadDec s .y
  | .ldZDec _ => clocksLoadDec s .z
  | .lddY _ q => if q = 0 then clocksLoad s .y else clocksLoadDisp s .y q
  | .lddZ _ q => if q = 0 then clocksLoad s .z else clocksLoadDisp s .z q
  | .sts _ _ => clocksNoTiny 2
  | .stdY q _ | .stdZ q _ => if q = 0 then clocksStore else clocksNoTiny 2
  | .stX _ | .stY _ | .stZ _ | .stXInc _ | .stYInc _ | .stZInc _ => clocksStore
  | .stXDec _ | .stYDec _ | .stZDec _ => clocksSame 2
  | .lpmR0 | .lpmZ _ | .lpmZInc _ | .elpmR0 | .elpmZ _ | .elpmZInc _ => clocksNoTiny 3
  | .spm | .spmZInc => ⟨none, none, none⟩
  | .push _ => ⟨some 2, some 1, some 2⟩
  | .pop _ => clocksSame 2
  | .lsl _ | .lsr _ | .rol _ | .ror _ | .asr _ | .swap _ | .bset _ | .bclr _ | .bst _ _ | .bld _ _ => clocksSame 1
  | .sec | .clc | .sen | .cln | .sez | .clz | .sei | .cli | .ses | .cls | .sev | .clv | .setT | .clt | .seh | .clh =>
    clocksSame 1
  | .sbi _ _ | .cbi _ _ => ⟨some 2, some 1, some 1⟩
  | .brk | .nop | .sleep | .wdr => clocksSame 1

/-- The clocks the instruction takes on this device, where the table gives a figure (R460). -/
def clocks (s : State) (i : Instr) : Option Nat := (clockRow s i).column s.cfg.coreTiming

end Sys2Proof.Machine
end

