-- ==== Sys2Proof/Tests/Slice0.lean ====
section
/-! SUPPORT. The model's own tests. Every expected value is taken from the tables of spec/96_derived_vectors.md, from an
opcode box of spec/30_encoding.md filled in by hand, or from the rule named beside it. -/
namespace Sys2Proof.Tests

open Sys2Proof.Machine

/-- The reference configuration of spec/96_derived_vectors.md Part 2; every I/O location of a device is plain storage. -/
def ref : Config where
  pcBits := 16
  flashEnd := 0x3FFF
  ramEnd := 0x08FF
  ptrClass := .normal
  hasRampX := false
  hasRampY := false
  hasRampZ := false
  hasRampD := false
  hasEind := false
  ioBase := 0x20
  extIoFirst := 1
  extIoLast := 0
  sramStart := 0x60
  sregIo := 0x3F
  splIo := 0x3D
  sphIo := 0x3E
  rampXIo := 0x39
  rampYIo := 0x3A
  rampZIo := 0x3B
  rampDIo := 0x38
  eindIo := 0x3C
  spWidth := .sixteen
  regfileInData := true
  reducedCore := false
  flashDataBase := none
  available := resetDevice.available
  ocdEnabled := false
  vectors := [⟨1, 2, true⟩, ⟨2, 4, true⟩]
  resetAddr := 0
  sregWriteHoldoff := false
  coreTiming := .classic
  ioStorage := [(0, 63)]
  extStorage := []
  spmPageWords := 4

/-- A machine of device `c` with SP = 0x08FF, the listed registers, and the listed cells of Program memory, SRAM and
device I/O. -/
def machine (c : Config) (pc : Nat) (regs : List (Reg × Byte)) (flash sram io : Memory) : State :=
  { resetState c with
    pc := BitVec.ofNat 22 pc
    sp := 0x08FF#16
    regs := regs.foldl (fun v p => v.set p.1 p.2) (Vector.replicate 32 0#8)
    flash := flash
    sram := sram
    ioDev := io }

/-- What `f` reads of the state after one step, if the step answers a next state. -/
def after {β : Type} (s : State) (f : State → β) : Option β :=
  match step s with
  | .next t => some (f t)
  | .fault _ => none
  | .refused _ => none

/-- The fault one step ends in. -/
def faultAfter (s : State) : Option Fault :=
  match step s with
  | .next _ => none
  | .fault e => some e
  | .refused _ => none

/-- The refusal one step ends in. -/
def refusalAfter (s : State) : Option Refusal :=
  match step s with
  | .next _ => none
  | .fault _ => none
  | .refused e => some e

/-- The reset device as a reduced core, where `1010` words are the 16-bit LDS and STS (R129). -/
def reduced : Config := { resetDevice with reducedCore := true }

/-! ### Ill-formed operands are refused (R23) -/
theorem test_wf_refuses_subi : Instr.wf (.subi 10 1#8) = false := by decide
theorem test_wf_refuses_sbci : Instr.wf (.sbci 0 1#8) = false := by decide
theorem test_wf_refuses_andi : Instr.wf (.andi 15 1#8) = false := by decide
theorem test_wf_refuses_ori : Instr.wf (.ori 3 1#8) = false := by decide
theorem test_wf_refuses_sbr : Instr.wf (.sbr 9 0#8) = false := by decide
theorem test_wf_refuses_cbr : Instr.wf (.cbr 1 0#8) = false := by decide
theorem test_wf_refuses_cpi : Instr.wf (.cpi 15 0#8) = false := by decide
theorem test_wf_refuses_ldi : Instr.wf (.ldi 15 0#8) = false := by decide
theorem test_wf_refuses_lds16 : Instr.wf (.lds16 15 0#7) = false := by decide
theorem test_wf_refuses_sts16 : Instr.wf (.sts16 0#7 2) = false := by decide
theorem test_wf_refuses_ser : Instr.wf (.ser 15) = false := by decide
theorem test_wf_refuses_muls : Instr.wf (.muls 16 15) = false := by decide
theorem test_wf_refuses_mulsu : Instr.wf (.mulsu 24 16) = false := by decide
theorem test_wf_refuses_fmul : Instr.wf (.fmul 16 24) = false := by decide
theorem test_wf_refuses_fmuls : Instr.wf (.fmuls 15 16) = false := by decide
theorem test_wf_refuses_fmulsu : Instr.wf (.fmulsu 16 31) = false := by decide
theorem test_wf_refuses_movw : Instr.wf (.movw 2 3) = false := by decide
theorem test_wf_refuses_adiw : Instr.wf (.adiw 22 1) = false := by decide
theorem test_wf_refuses_sbiw : Instr.wf (.sbiw 25 1) = false := by decide
theorem test_wf_refuses_muls_destination : Instr.wf (.muls 15 16) = false := by decide
theorem test_wf_refuses_movw_destination : Instr.wf (.movw 3 2) = false := by decide

/-! ### Decoding and encoding: one word per row of the opcode table, its box filled in by hand -/

theorem test_decode_add :
    decode resetDevice 0x0ec2#16 0x0000#16 = .instr (.add 12 18) ∧ encode (.add 12 18) = [0x0ec2#16] := by decide
theorem test_decode_adc :
    decode resetDevice 0x1e24#16 0x0000#16 = .instr (.adc 2 20) ∧ encode (.adc 2 20) = [0x1e24#16] := by decide
theorem test_decode_adiw :
    decode resetDevice 0x961b#16 0x0000#16 = .instr (.adiw 26 11) ∧ encode (.adiw 26 11) = [0x961b#16] := by decide
theorem test_decode_sub :
    decode resetDevice 0x1b5e#16 0x0000#16 = .instr (.sub 21 30) ∧ encode (.sub 21 30) = [0x1b5e#16] := by decide
theorem test_decode_subi :
    decode resetDevice 0x5c2c#16 0x0000#16 = .instr (.subi 18 0xcc#8) ∧ encode (.subi 18 0xcc#8) = [0x5c2c#16] := by decide
theorem test_decode_sbc :
    decode resetDevice 0x0a3e#16 0x0000#16 = .instr (.sbc 3 30) ∧ encode (.sbc 3 30) = [0x0a3e#16] := by decide
theorem test_decode_sbci :
    decode resetDevice 0x40bb#16 0x0000#16 = .instr (.sbci 27 0xb#8) ∧ encode (.sbci 27 0xb#8) = [0x40bb#16] := by decide
theorem test_decode_sbiw :
    decode resetDevice 0x9747#16 0x0000#16 = .instr (.sbiw 24 23) ∧ encode (.sbiw 24 23) = [0x9747#16] := by decide
theorem test_decode_and :
    decode resetDevice 0x2132#16 0x0000#16 = .instr (.and 19 2) ∧ encode (.and 19 2) = [0x2132#16] := by decide
theorem test_decode_andi :
    decode resetDevice 0x7cb8#16 0x0000#16 = .instr (.andi 27 0xc8#8) ∧ encode (.andi 27 0xc8#8) = [0x7cb8#16] := by decide
theorem test_decode_or :
    decode resetDevice 0x29a1#16 0x0000#16 = .instr (.or 26 1) ∧ encode (.or 26 1) = [0x29a1#16] := by decide
theorem test_decode_ori :
    decode resetDevice 0x646c#16 0x0000#16 = .instr (.ori 22 0x4c#8) ∧ encode (.ori 22 0x4c#8) = [0x646c#16] := by decide
theorem test_decode_eor :
    decode resetDevice 0x274f#16 0x0000#16 = .instr (.eor 20 31) ∧ encode (.eor 20 31) = [0x274f#16] := by decide
theorem test_decode_com :
    decode resetDevice 0x9460#16 0x0000#16 = .instr (.com 6) ∧ encode (.com 6) = [0x9460#16] := by decide
theorem test_decode_neg :
    decode resetDevice 0x94f1#16 0x0000#16 = .instr (.neg 15) ∧ encode (.neg 15) = [0x94f1#16] := by decide
theorem test_decode_sbr :
    decode resetDevice 0x642b#16 0x0000#16 = .instr (.ori 18 0x4b#8) ∧ encode (.sbr 18 0x4b#8) = [0x642b#16] := by decide
theorem test_decode_cbr :
    decode resetDevice 0x73b6#16 0x0000#16 = .instr (.andi 27 0x36#8) ∧ encode (.cbr 27 0xc9#8) = [0x73b6#16] := by decide
theorem test_decode_inc :
    decode resetDevice 0x9513#16 0x0000#16 = .instr (.inc 17) ∧ encode (.inc 17) = [0x9513#16] := by decide
theorem test_decode_dec :
    decode resetDevice 0x95aa#16 0x0000#16 = .instr (.dec 26) ∧ encode (.dec 26) = [0x95aa#16] := by decide
theorem test_decode_tst :
    decode resetDevice 0x2355#16 0x0000#16 = .instr (.and 21 21) ∧ encode (.tst 21) = [0x2355#16] := by decide
theorem test_decode_clr :
    decode resetDevice 0x2499#16 0x0000#16 = .instr (.eor 9 9) ∧ encode (.clr 9) = [0x2499#16] := by decide
theorem test_decode_ser :
    decode resetDevice 0xefbf#16 0x0000#16 = .instr (.ldi 27 0xff#8) ∧ encode (.ser 27) = [0xefbf#16] := by decide
theorem test_decode_mul :
    decode resetDevice 0x9cdb#16 0x0000#16 = .instr (.mul 13 11) ∧ encode (.mul 13 11) = [0x9cdb#16] := by decide
theorem test_decode_muls :
    decode resetDevice 0x02cd#16 0x0000#16 = .instr (.muls 28 29) ∧ encode (.muls 28 29) = [0x02cd#16] := by decide
theorem test_decode_mulsu :
    decode resetDevice 0x0356#16 0x0000#16 = .instr (.mulsu 21 22) ∧ encode (.mulsu 21 22) = [0x0356#16] := by decide
theorem test_decode_fmul :
    decode resetDevice 0x032e#16 0x0000#16 = .instr (.fmul 18 22) ∧ encode (.fmul 18 22) = [0x032e#16] := by decide
theorem test_decode_fmuls :
    decode resetDevice 0x0392#16 0x0000#16 = .instr (.fmuls 17 18) ∧ encode (.fmuls 17 18) = [0x0392#16] := by decide
theorem test_decode_fmulsu :
    decode resetDevice 0x038f#16 0x0000#16 = .instr (.fmulsu 16 23) ∧ encode (.fmulsu 16 23) = [0x038f#16] := by decide
theorem test_decode_des :
    decode resetDevice 0x94cb#16 0x0000#16 = .instr (.des 12) ∧ encode (.des 12) = [0x94cb#16] := by decide
theorem test_decode_rjmp :
    decode resetDevice 0xcf24#16 0x0000#16 = .instr (.rjmp 0xf24#12) ∧ encode (.rjmp 0xf24#12) = [0xcf24#16] := by decide
theorem test_decode_ijmp :
    decode resetDevice 0x9409#16 0x0000#16 = .instr (.ijmp) ∧ encode (.ijmp) = [0x9409#16] := by decide
theorem test_decode_eijmp :
    decode resetDevice 0x9419#16 0x0000#16 = .instr (.eijmp) ∧ encode (.eijmp) = [0x9419#16] := by decide
theorem test_decode_jmp :
    decode resetDevice 0x955c#16 0x6efe#16 = .instr (.jmp 0x2a6efe#22) ∧ encode (.jmp 0x2a6efe#22) = [0x955c#16, 0x6efe#16] := by decide
theorem test_decode_rcall :
    decode resetDevice 0xd590#16 0x0000#16 = .instr (.rcall 0x590#12) ∧ encode (.rcall 0x590#12) = [0xd590#16] := by decide
theorem test_decode_icall :
    decode resetDevice 0x9509#16 0x0000#16 = .instr (.icall) ∧ encode (.icall) = [0x9509#16] := by decide
theorem test_decode_eicall :
    decode resetDevice 0x9519#16 0x0000#16 = .instr (.eicall) ∧ encode (.eicall) = [0x9519#16] := by decide
theorem test_decode_call :
    decode resetDevice 0x941f#16 0x0336#16 = .instr (.call 0x30336#22) ∧ encode (.call 0x30336#22) = [0x941f#16, 0x0336#16] := by decide
theorem test_decode_ret :
    decode resetDevice 0x9508#16 0x0000#16 = .instr (.ret) ∧ encode (.ret) = [0x9508#16] := by decide
theorem test_decode_reti :
    decode resetDevice 0x9518#16 0x0000#16 = .instr (.reti) ∧ encode (.reti) = [0x9518#16] := by decide
theorem test_decode_cpse :
    decode resetDevice 0x12c9#16 0x0000#16 = .instr (.cpse 12 25) ∧ encode (.cpse 12 25) = [0x12c9#16] := by decide
theorem test_decode_cp :
    decode resetDevice 0x1425#16 0x0000#16 = .instr (.cp 2 5) ∧ encode (.cp 2 5) = [0x1425#16] := by decide
theorem test_decode_cpc :
    decode resetDevice 0x079b#16 0x0000#16 = .instr (.cpc 25 27) ∧ encode (.cpc 25 27) = [0x079b#16] := by decide
theorem test_decode_cpi :
    decode resetDevice 0x3a1f#16 0x0000#16 = .instr (.cpi 17 0xaf#8) ∧ encode (.cpi 17 0xaf#8) = [0x3a1f#16] := by decide
theorem test_decode_sbrc :
    decode resetDevice 0xfca4#16 0x0000#16 = .instr (.sbrc 10 4) ∧ encode (.sbrc 10 4) = [0xfca4#16] := by decide
theorem test_decode_sbrs :
    decode resetDevice 0xfec2#16 0x0000#16 = .instr (.sbrs 12 2) ∧ encode (.sbrs 12 2) = [0xfec2#16] := by decide
theorem test_decode_sbic :
    decode resetDevice 0x9968#16 0x0000#16 = .instr (.sbic 13 0) ∧ encode (.sbic 13 0) = [0x9968#16] := by decide
theorem test_decode_sbis :
    decode resetDevice 0x9bd2#16 0x0000#16 = .instr (.sbis 26 2) ∧ encode (.sbis 26 2) = [0x9bd2#16] := by decide
theorem test_decode_brbs :
    decode resetDevice 0xf2a4#16 0x0000#16 = .instr (.brbs 4 0x54#7) ∧ encode (.brbs 4 0x54#7) = [0xf2a4#16] := by decide
theorem test_decode_brbc :
    decode resetDevice 0xf45b#16 0x0000#16 = .instr (.brbc 3 0xb#7) ∧ encode (.brbc 3 0xb#7) = [0xf45b#16] := by decide
theorem test_decode_breq :
    decode resetDevice 0xf1b1#16 0x0000#16 = .instr (.brbs 1 0x36#7) ∧ encode (.breq 0x36#7) = [0xf1b1#16] := by decide
theorem test_decode_brne :
    decode resetDevice 0xf751#16 0x0000#16 = .instr (.brbc 1 0x6a#7) ∧ encode (.brne 0x6a#7) = [0xf751#16] := by decide
theorem test_decode_brcs :
    decode resetDevice 0xf058#16 0x0000#16 = .instr (.brbs 0 0xb#7) ∧ encode (.brcs 0xb#7) = [0xf058#16] := by decide
theorem test_decode_brcc :
    decode resetDevice 0xf670#16 0x0000#16 = .instr (.brbc 0 0x4e#7) ∧ encode (.brcc 0x4e#7) = [0xf670#16] := by decide
theorem test_decode_brsh :
    decode resetDevice 0xf7b8#16 0x0000#16 = .instr (.brbc 0 0x77#7) ∧ encode (.brsh 0x77#7) = [0xf7b8#16] := by decide
theorem test_decode_brlo :
    decode resetDevice 0xf090#16 0x0000#16 = .instr (.brbs 0 0x12#7) ∧ encode (.brlo 0x12#7) = [0xf090#16] := by decide
theorem test_decode_brmi :
    decode resetDevice 0xf1ca#16 0x0000#16 = .instr (.brbs 2 0x39#7) ∧ encode (.brmi 0x39#7) = [0xf1ca#16] := by decide
theorem test_decode_brpl :
    decode resetDevice 0xf5a2#16 0x0000#16 = .instr (.brbc 2 0x34#7) ∧ encode (.brpl 0x34#7) = [0xf5a2#16] := by decide
theorem test_decode_brge :
    decode resetDevice 0xf514#16 0x0000#16 = .instr (.brbc 4 0x22#7) ∧ encode (.brge 0x22#7) = [0xf514#16] := by decide
theorem test_decode_brlt :
    decode resetDevice 0xf1d4#16 0x0000#16 = .instr (.brbs 4 0x3a#7) ∧ encode (.brlt 0x3a#7) = [0xf1d4#16] := by decide
theorem test_decode_brhs :
    decode resetDevice 0xf395#16 0x0000#16 = .instr (.brbs 5 0x72#7) ∧ encode (.brhs 0x72#7) = [0xf395#16] := by decide
theorem test_decode_brhc :
    decode resetDevice 0xf6bd#16 0x0000#16 = .instr (.brbc 5 0x57#7) ∧ encode (.brhc 0x57#7) = [0xf6bd#16] := by decide
theorem test_decode_brts :
    decode resetDevice 0xf056#16 0x0000#16 = .instr (.brbs 6 0xa#7) ∧ encode (.brts 0xa#7) = [0xf056#16] := by decide
theorem test_decode_brtc :
    decode resetDevice 0xf756#16 0x0000#16 = .instr (.brbc 6 0x6a#7) ∧ encode (.brtc 0x6a#7) = [0xf756#16] := by decide
theorem test_decode_brvs :
    decode resetDevice 0xf383#16 0x0000#16 = .instr (.brbs 3 0x70#7) ∧ encode (.brvs 0x70#7) = [0xf383#16] := by decide
theorem test_decode_brvc :
    decode resetDevice 0xf493#16 0x0000#16 = .instr (.brbc 3 0x12#7) ∧ encode (.brvc 0x12#7) = [0xf493#16] := by decide
theorem test_decode_brie :
    decode resetDevice 0xf057#16 0x0000#16 = .instr (.brbs 7 0xa#7) ∧ encode (.brie 0xa#7) = [0xf057#16] := by decide
theorem test_decode_brid :
    decode resetDevice 0xf667#16 0x0000#16 = .instr (.brbc 7 0x4c#7) ∧ encode (.brid 0x4c#7) = [0xf667#16] := by decide
theorem test_decode_mov :
    decode resetDevice 0x2fee#16 0x0000#16 = .instr (.mov 30 30) ∧ encode (.mov 30 30) = [0x2fee#16] := by decide
theorem test_decode_movw :
    decode resetDevice 0x018b#16 0x0000#16 = .instr (.movw 16 22) ∧ encode (.movw 16 22) = [0x018b#16] := by decide
theorem test_decode_ldi :
    decode resetDevice 0xe383#16 0x0000#16 = .instr (.ldi 24 0x33#8) ∧ encode (.ldi 24 0x33#8) = [0xe383#16] := by decide
theorem test_decode_lds :
    decode resetDevice 0x9140#16 0x295b#16 = .instr (.lds 20 0x295b#16) ∧ encode (.lds 20 0x295b#16) = [0x9140#16, 0x295b#16] := by decide
theorem test_decode_lds16 :
    decode reduced 0xa12e#16 0x0000#16 = .instr (.lds16 18 0x1e#7) ∧ encode (.lds16 18 0x1e#7) = [0xa12e#16] := by decide
theorem test_decode_ldX :
    decode resetDevice 0x909c#16 0x0000#16 = .instr (.ldX 9) ∧ encode (.ldX 9) = [0x909c#16] := by decide
theorem test_decode_ldXInc :
    decode resetDevice 0x907d#16 0x0000#16 = .instr (.ldXInc 7) ∧ encode (.ldXInc 7) = [0x907d#16] := by decide
theorem test_decode_ldXDec :
    decode resetDevice 0x907e#16 0x0000#16 = .instr (.ldXDec 7) ∧ encode (.ldXDec 7) = [0x907e#16] := by decide
theorem test_decode_ldY :
    decode resetDevice 0x80d8#16 0x0000#16 = .instr (.lddY 13 0) ∧ encode (.ldY 13) = [0x80d8#16] := by decide
theorem test_decode_ldYInc :
    decode resetDevice 0x91d9#16 0x0000#16 = .instr (.ldYInc 29) ∧ encode (.ldYInc 29) = [0x91d9#16] := by decide
theorem test_decode_ldYDec :
    decode resetDevice 0x910a#16 0x0000#16 = .instr (.ldYDec 16) ∧ encode (.ldYDec 16) = [0x910a#16] := by decide
theorem test_decode_lddY :
    decode resetDevice 0xa8bd#16 0x0000#16 = .instr (.lddY 11 53) ∧ encode (.lddY 11 53) = [0xa8bd#16] := by decide
theorem test_decode_ldZ :
    decode resetDevice 0x8020#16 0x0000#16 = .instr (.lddZ 2 0) ∧ encode (.ldZ 2) = [0x8020#16] := by decide
theorem test_decode_ldZInc :
    decode resetDevice 0x9001#16 0x0000#16 = .instr (.ldZInc 0) ∧ encode (.ldZInc 0) = [0x9001#16] := by decide
theorem test_decode_ldZDec :
    decode resetDevice 0x90e2#16 0x0000#16 = .instr (.ldZDec 14) ∧ encode (.ldZDec 14) = [0x90e2#16] := by decide
theorem test_decode_lddZ :
    decode resetDevice 0x88d5#16 0x0000#16 = .instr (.lddZ 13 21) ∧ encode (.lddZ 13 21) = [0x88d5#16] := by decide
theorem test_decode_sts :
    decode resetDevice 0x9390#16 0x6578#16 = .instr (.sts 0x6578#16 25) ∧ encode (.sts 0x6578#16 25) = [0x9390#16, 0x6578#16] := by decide
theorem test_decode_sts16 :
    decode reduced 0xaba5#16 0x0000#16 = .instr (.sts16 0x35#7 26) ∧ encode (.sts16 0x35#7 26) = [0xaba5#16] := by decide
theorem test_decode_stX :
    decode resetDevice 0x938c#16 0x0000#16 = .instr (.stX 24) ∧ encode (.stX 24) = [0x938c#16] := by decide
theorem test_decode_stXInc :
    decode resetDevice 0x93bd#16 0x0000#16 = .instr (.stXInc 27) ∧ encode (.stXInc 27) = [0x93bd#16] := by decide
theorem test_decode_stXDec :
    decode resetDevice 0x92ce#16 0x0000#16 = .instr (.stXDec 12) ∧ encode (.stXDec 12) = [0x92ce#16] := by decide
theorem test_decode_stY :
    decode resetDevice 0x83a8#16 0x0000#16 = .instr (.stdY 0 26) ∧ encode (.stY 26) = [0x83a8#16] := by decide
theorem test_decode_stYInc :
    decode resetDevice 0x93e9#16 0x0000#16 = .instr (.stYInc 30) ∧ encode (.stYInc 30) = [0x93e9#16] := by decide
theorem test_decode_stYDec :
    decode resetDevice 0x93fa#16 0x0000#16 = .instr (.stYDec 31) ∧ encode (.stYDec 31) = [0x93fa#16] := by decide
theorem test_decode_stdY :
    decode resetDevice 0xa2ba#16 0x0000#16 = .instr (.stdY 34 11) ∧ encode (.stdY 34 11) = [0xa2ba#16] := by decide
theorem test_decode_stZ :
    decode resetDevice 0x8390#16 0x0000#16 = .instr (.stdZ 0 25) ∧ encode (.stZ 25) = [0x8390#16] := by decide
theorem test_decode_stZInc :
    decode resetDevice 0x9261#16 0x0000#16 = .instr (.stZInc 6) ∧ encode (.stZInc 6) = [0x9261#16] := by decide
theorem test_decode_stZDec :
    decode resetDevice 0x9262#16 0x0000#16 = .instr (.stZDec 6) ∧ encode (.stZDec 6) = [0x9262#16] := by decide
theorem test_decode_stdZ :
    decode resetDevice 0xa6d5#16 0x0000#16 = .instr (.stdZ 45 13) ∧ encode (.stdZ 45 13) = [0xa6d5#16] := by decide
theorem test_decode_ioIn :
    decode resetDevice 0xb6eb#16 0x0000#16 = .instr (.ioIn 14 59) ∧ encode (.ioIn 14 59) = [0xb6eb#16] := by decide
theorem test_decode_ioOut :
    decode resetDevice 0xbae0#16 0x0000#16 = .instr (.ioOut 16 14) ∧ encode (.ioOut 16 14) = [0xbae0#16] := by decide
theorem test_decode_push :
    decode resetDevice 0x921f#16 0x0000#16 = .instr (.push 1) ∧ encode (.push 1) = [0x921f#16] := by decide
theorem test_decode_pop :
    decode resetDevice 0x90af#16 0x0000#16 = .instr (.pop 10) ∧ encode (.pop 10) = [0x90af#16] := by decide
theorem test_decode_lpmR0 :
    decode resetDevice 0x95c8#16 0x0000#16 = .instr (.lpmR0) ∧ encode (.lpmR0) = [0x95c8#16] := by decide
theorem test_decode_lpmZ :
    decode resetDevice 0x9164#16 0x0000#16 = .instr (.lpmZ 22) ∧ encode (.lpmZ 22) = [0x9164#16] := by decide
theorem test_decode_lpmZInc :
    decode resetDevice 0x9075#16 0x0000#16 = .instr (.lpmZInc 7) ∧ encode (.lpmZInc 7) = [0x9075#16] := by decide
theorem test_decode_elpmR0 :
    decode resetDevice 0x95d8#16 0x0000#16 = .instr (.elpmR0) ∧ encode (.elpmR0) = [0x95d8#16] := by decide
theorem test_decode_elpmZ :
    decode resetDevice 0x91a6#16 0x0000#16 = .instr (.elpmZ 26) ∧ encode (.elpmZ 26) = [0x91a6#16] := by decide
theorem test_decode_elpmZInc :
    decode resetDevice 0x9027#16 0x0000#16 = .instr (.elpmZInc 2) ∧ encode (.elpmZInc 2) = [0x9027#16] := by decide
theorem test_decode_spm :
    decode resetDevice 0x95e8#16 0x0000#16 = .instr (.spm) ∧ encode (.spm) = [0x95e8#16] := by decide
theorem test_decode_spmZInc :
    decode resetDevice 0x95f8#16 0x0000#16 = .instr (.spmZInc) ∧ encode (.spmZInc) = [0x95f8#16] := by decide
theorem test_decode_lsl :
    decode resetDevice 0x0f88#16 0x0000#16 = .instr (.add 24 24) ∧ encode (.lsl 24) = [0x0f88#16] := by decide
theorem test_decode_lsr :
    decode resetDevice 0x9506#16 0x0000#16 = .instr (.lsr 16) ∧ encode (.lsr 16) = [0x9506#16] := by decide
theorem test_decode_rol :
    decode resetDevice 0x1f88#16 0x0000#16 = .instr (.adc 24 24) ∧ encode (.rol 24) = [0x1f88#16] := by decide
theorem test_decode_ror :
    decode resetDevice 0x95e7#16 0x0000#16 = .instr (.ror 30) ∧ encode (.ror 30) = [0x95e7#16] := by decide
theorem test_decode_asr :
    decode resetDevice 0x94a5#16 0x0000#16 = .instr (.asr 10) ∧ encode (.asr 10) = [0x94a5#16] := by decide
theorem test_decode_swap :
    decode resetDevice 0x9422#16 0x0000#16 = .instr (.swap 2) ∧ encode (.swap 2) = [0x9422#16] := by decide
theorem test_decode_bset :
    decode resetDevice 0x9468#16 0x0000#16 = .instr (.bset 6) ∧ encode (.bset 6) = [0x9468#16] := by decide
theorem test_decode_bclr :
    decode resetDevice 0x9498#16 0x0000#16 = .instr (.bclr 1) ∧ encode (.bclr 1) = [0x9498#16] := by decide
theorem test_decode_sbi :
    decode resetDevice 0x9a0a#16 0x0000#16 = .instr (.sbi 1 2) ∧ encode (.sbi 1 2) = [0x9a0a#16] := by decide
theorem test_decode_cbi :
    decode resetDevice 0x9818#16 0x0000#16 = .instr (.cbi 3 0) ∧ encode (.cbi 3 0) = [0x9818#16] := by decide
theorem test_decode_bst :
    decode resetDevice 0xfb24#16 0x0000#16 = .instr (.bst 18 4) ∧ encode (.bst 18 4) = [0xfb24#16] := by decide
theorem test_decode_bld :
    decode resetDevice 0xf953#16 0x0000#16 = .instr (.bld 21 3) ∧ encode (.bld 21 3) = [0xf953#16] := by decide
theorem test_decode_sec :
    decode resetDevice 0x9408#16 0x0000#16 = .instr (.bset 0) ∧ encode (.sec) = [0x9408#16] := by decide
theorem test_decode_clc :
    decode resetDevice 0x9488#16 0x0000#16 = .instr (.bclr 0) ∧ encode (.clc) = [0x9488#16] := by decide
theorem test_decode_sen :
    decode resetDevice 0x9428#16 0x0000#16 = .instr (.bset 2) ∧ encode (.sen) = [0x9428#16] := by decide
theorem test_decode_cln :
    decode resetDevice 0x94a8#16 0x0000#16 = .instr (.bclr 2) ∧ encode (.cln) = [0x94a8#16] := by decide
theorem test_decode_sez :
    decode resetDevice 0x9418#16 0x0000#16 = .instr (.bset 1) ∧ encode (.sez) = [0x9418#16] := by decide
theorem test_decode_clz :
    decode resetDevice 0x9498#16 0x0000#16 = .instr (.bclr 1) ∧ encode (.clz) = [0x9498#16] := by decide
theorem test_decode_sei :
    decode resetDevice 0x9478#16 0x0000#16 = .instr (.bset 7) ∧ encode (.sei) = [0x9478#16] := by decide
theorem test_decode_cli :
    decode resetDevice 0x94f8#16 0x0000#16 = .instr (.bclr 7) ∧ encode (.cli) = [0x94f8#16] := by decide
theorem test_decode_ses :
    decode resetDevice 0x9448#16 0x0000#16 = .instr (.bset 4) ∧ encode (.ses) = [0x9448#16] := by decide
theorem test_decode_cls :
    decode resetDevice 0x94c8#16 0x0000#16 = .instr (.bclr 4) ∧ encode (.cls) = [0x94c8#16] := by decide
theorem test_decode_sev :
    decode resetDevice 0x9438#16 0x0000#16 = .instr (.bset 3) ∧ encode (.sev) = [0x9438#16] := by decide
theorem test_decode_clv :
    decode resetDevice 0x94b8#16 0x0000#16 = .instr (.bclr 3) ∧ encode (.clv) = [0x94b8#16] := by decide
theorem test_decode_setT :
    decode resetDevice 0x9468#16 0x0000#16 = .instr (.bset 6) ∧ encode (.setT) = [0x9468#16] := by decide
theorem test_decode_clt :
    decode resetDevice 0x94e8#16 0x0000#16 = .instr (.bclr 6) ∧ encode (.clt) = [0x94e8#16] := by decide
theorem test_decode_seh :
    decode resetDevice 0x9458#16 0x0000#16 = .instr (.bset 5) ∧ encode (.seh) = [0x9458#16] := by decide
theorem test_decode_clh :
    decode resetDevice 0x94d8#16 0x0000#16 = .instr (.bclr 5) ∧ encode (.clh) = [0x94d8#16] := by decide
theorem test_decode_brk :
    decode resetDevice 0x9598#16 0x0000#16 = .instr (.brk) ∧ encode (.brk) = [0x9598#16] := by decide
theorem test_decode_nop :
    decode resetDevice 0x0000#16 0x0000#16 = .instr (.nop) ∧ encode (.nop) = [0x0000#16] := by decide
theorem test_decode_sleep :
    decode resetDevice 0x9588#16 0x0000#16 = .instr (.sleep) ∧ encode (.sleep) = [0x9588#16] := by decide
theorem test_decode_wdr :
    decode resetDevice 0x95a8#16 0x0000#16 = .instr (.wdr) ∧ encode (.wdr) = [0x95a8#16] := by decide

/-! ### Reserved words and device differences (spec/96_derived_vectors.md V30) -/

theorem test_reserved_words :
    [0x0001#16, 0x9003#16, 0x9008#16, 0x900b#16, 0x9204#16, 0x920b#16, 0x9404#16, 0x9528#16, 0x95b8#16, 0x9429#16, 0x950b#16, 0xf808#16, 0xffff#16].all
      (fun w => decode resetDevice w 0#16 == .rejected .noRow) = true := by decide
theorem test_eijmp_absent : decode ref 0x9419#16 0#16 = .rejected .notOnDevice := by decide
theorem test_des_absent :
    decode { ref with available := [] } 0x940B#16 0#16 = .rejected .notOnDevice := by decide
theorem test_ldd_without_row :
    decode { ref with available := [.ldZ] } 0x8000#16 0#16 = .instr (.lddZ 0 0)
      ∧ decode { ref with available := [.ldZ] } 0x8001#16 0#16 = .rejected .notOnDevice := by decide
theorem test_reduced_core_words :
    decode ref 0xA100#16 0#16 = .instr (.lddZ 16 32) ∧ decode reduced 0xA100#16 0#16 = .instr (.lds16 16 0x10#7)
      ∧ decode reduced 0x0C01#16 0#16 = .rejected .noSuchRegister
      ∧ decode reduced 0x8101#16 0#16 = .rejected .notOnDevice ∧ decode reduced 0x8100#16 0#16 = .instr (.lddZ 16 0)
      ∧ decode { reduced with available := [.ldZ] } 0x8100#16 0#16 = .instr (.lddZ 16 0) := by decide
/-- The skip figures of R460: no skip, over one word, over two, the last also where the pc has one bit and wraps. -/
theorem test_clocks_skip :
    let s (c : Config) (next : Word16) := machine c 0 [(1, 1#8)] (Memory.writeWord [] 1 next) [] []
    let tiny := { ref with pcBits := 1, flashEnd := 1, vectors := [] }
    (clockRow (s ref 0#16) (.cpse 0 1)).classic = some 1 ∧ (clockRow (s ref 0#16) (.cpse 0 0)).classic = some 2
      ∧ (clockRow (s ref 0x940C#16) (.sbrs 1 0)).classic = some 3 ∧ tiny.wf = true
      ∧ (clockRow (s tiny 0x940C#16) (.sbrc 0 0)).classic = some 3
      ∧ (clockRow { s tiny 0x940C#16 with ioDev := [(0, 1#8)] } (.sbis 0 0)).xmega = some 4
      ∧ (clockRow { s tiny 0x940C#16 with ioDev := [(0, 1#8)] } (.sbic 0 0)).xmega = some 2 := by decide
/-- The clock table of R460 on words of displacement 0 and 1. -/
theorem test_clocks_displacement :
    let s := machine ref 0x100 [(30, 0x60#8)] [] [] []
    (clockRow s (.lddZ 16 0)).tiny10 = some 1 ∧ (clockRow s (.lddZ 16 1)).tiny10 = none
      ∧ (clockRow s (.lddZ 16 0)).xmega = some 2 ∧ (clockRow s (.lddZ 16 1)).xmega = some 3
      ∧ (clockRow s (.stdZ 0 16)).tiny10 = some 1 ∧ (clockRow s (.stdZ 1 16)).tiny10 = none := by decide
theorem test_table_word_numbering :
    decodeTableWord 32 0x940C1234 = some (.jmp 0x1234#22) ∧ decodeTableWord 32 0x1234940C = some (.jmp 0x1234#22)
      ∧ decodeTableWord 16 0x0F01 = some (.add 16 17) := by decide
theorem test_first_step_runs_the_placed_word :
    after (State.reset.withFetchWord 16 0xE5FA) (fun t => (t.reg 31, t.pc)) = some (0x5A#8, 1#22) := by decide

/-! ### One step of each instruction (spec/96_derived_vectors.md V40 to V46) -/

/-- `add r16,r17` -/
theorem test_add_1 :
    after ({ machine (ref) 0x100 [(16, 0x7f#8), (17, 0x1#8)] [(0x200, 0x1#8), (0x201, 0xf#8)] [] [] with sreg := 0x0#8 })
      (fun t => (t.reg 16, t.sreg, t.pc))
      = some (0x80#8, 0x2c#8, 0x101#22) := by decide
/-- `add r16,r17` -/
theorem test_add_2 :
    after ({ machine (ref) 0x100 [(16, 0xff#8), (17, 0x1#8)] [(0x200, 0x1#8), (0x201, 0xf#8)] [] [] with sreg := 0x0#8 })
      (fun t => (t.reg 16, t.sreg, t.pc))
      = some (0x0#8, 0x23#8, 0x101#22) := by decide
/-- `adc r16,r17` -/
theorem test_adc_1 :
    after ({ machine (ref) 0x100 [(16, 0xff#8), (17, 0x0#8)] [(0x200, 0x1#8), (0x201, 0x1f#8)] [] [] with sreg := 0x1#8 })
      (fun t => (t.reg 16, t.sreg, t.pc))
      = some (0x0#8, 0x23#8, 0x101#22) := by decide
/-- `adc r16,r17` -/
theorem test_adc_2 :
    after ({ machine (ref) 0x100 [(16, 0xf#8), (17, 0x0#8)] [(0x200, 0x1#8), (0x201, 0x1f#8)] [] [] with sreg := 0x1#8 })
      (fun t => (t.reg 16, t.sreg, t.pc))
      = some (0x10#8, 0x20#8, 0x101#22) := by decide
/-- `adiw r25:r24,1` -/
theorem test_adiw_1 :
    after ({ machine (ref) 0x100 [(24, 0xff#8), (25, 0xff#8)] [(0x200, 0x1#8), (0x201, 0x96#8)] [] [] with sreg := 0x0#8 })
      (fun t => (t.pair 24, t.sreg, t.pc))
      = some (0x0#16, 0x3#8, 0x101#22) := by decide
/-- `adiw r25:r24,1` -/
theorem test_adiw_2 :
    after ({ machine (ref) 0x100 [(24, 0xff#8), (25, 0x7f#8)] [(0x200, 0x1#8), (0x201, 0x96#8)] [] [] with sreg := 0x0#8 })
      (fun t => (t.pair 24, t.sreg, t.pc))
      = some (0x8000#16, 0xc#8, 0x101#22) := by decide
/-- `sub r16,r17` -/
theorem test_sub_1 :
    after ({ machine (ref) 0x100 [(16, 0x0#8), (17, 0x1#8)] [(0x200, 0x1#8), (0x201, 0x1b#8)] [] [] with sreg := 0x0#8 })
      (fun t => (t.reg 16, t.sreg, t.pc))
      = some (0xff#8, 0x35#8, 0x101#22) := by decide
/-- `sub r16,r17` -/
theorem test_sub_2 :
    after ({ machine (ref) 0x100 [(16, 0x80#8), (17, 0x1#8)] [(0x200, 0x1#8), (0x201, 0x1b#8)] [] [] with sreg := 0x0#8 })
      (fun t => (t.reg 16, t.sreg, t.pc))
      = some (0x7f#8, 0x38#8, 0x101#22) := by decide
/-- `subi r16,$10` -/
theorem test_subi_1 :
    after ({ machine (ref) 0x100 [(16, 0x10#8)] [(0x200, 0x0#8), (0x201, 0x51#8)] [] [] with sreg := 0x0#8 })
      (fun t => (t.reg 16, t.sreg, t.pc))
      = some (0x0#8, 0x2#8, 0x101#22) := by decide
/-- `subi r31,$FF` -/
theorem test_subi_2 :
    after ({ machine (ref) 0x100 [(31, 0x0#8)] [(0x200, 0xff#8), (0x201, 0x5f#8)] [] [] with sreg := 0x0#8 })
      (fun t => (t.reg 31, t.sreg, t.pc))
      = some (0x1#8, 0x21#8, 0x101#22) := by decide
/-- `sbc r16,r17` -/
theorem test_sbc_1 :
    after ({ machine (ref) 0x100 [(16, 0x0#8), (17, 0x0#8)] [(0x200, 0x1#8), (0x201, 0xb#8)] [] [] with sreg := 0x2#8 })
      (fun t => (t.reg 16, t.sreg, t.pc))
      = some (0x0#8, 0x2#8, 0x101#22) := by decide
/-- `sbc r16,r17` -/
theorem test_sbc_2 :
    after ({ machine (ref) 0x100 [(16, 0x0#8), (17, 0x0#8)] [(0x200, 0x1#8), (0x201, 0xb#8)] [] [] with sreg := 0x0#8 })
      (fun t => (t.reg 16, t.sreg, t.pc))
      = some (0x0#8, 0x0#8, 0x101#22) := by decide
/-- `sbci r17,$4F` -/
theorem test_sbci_1 :
    after ({ machine (ref) 0x100 [(17, 0x50#8)] [(0x200, 0x1f#8), (0x201, 0x44#8)] [] [] with sreg := 0x3#8 })
      (fun t => (t.reg 17, t.sreg, t.pc))
      = some (0x0#8, 0x22#8, 0x101#22) := by decide
/-- `sbiw r25:r24,1` -/
theorem test_sbiw_1 :
    after ({ machine (ref) 0x100 [(24, 0x0#8), (25, 0x0#8)] [(0x200, 0x1#8), (0x201, 0x97#8)] [] [] with sreg := 0x0#8 })
      (fun t => (t.pair 24, t.sreg, t.pc))
      = some (0xffff#16, 0x15#8, 0x101#22) := by decide
/-- `sbiw r25:r24,1` -/
theorem test_sbiw_2 :
    after ({ machine (ref) 0x100 [(24, 0x0#8), (25, 0x80#8)] [(0x200, 0x1#8), (0x201, 0x97#8)] [] [] with sreg := 0x0#8 })
      (fun t => (t.pair 24, t.sreg, t.pc))
      = some (0x7fff#16, 0x18#8, 0x101#22) := by decide
/-- `and r2,r3` -/
theorem test_and_1 :
    after ({ machine (ref) 0x100 [(2, 0xf0#8), (3, 0x8f#8)] [(0x200, 0x23#8), (0x201, 0x20#8)] [] [] with sreg := 0x9#8 })
      (fun t => (t.reg 2, t.sreg, t.pc))
      = some (0x80#8, 0x15#8, 0x101#22) := by decide
/-- `andi r17,$0F` -/
theorem test_andi_1 :
    after ({ machine (ref) 0x100 [(17, 0xa5#8)] [(0x200, 0x1f#8), (0x201, 0x70#8)] [] [] with sreg := 0x0#8 })
      (fun t => (t.reg 17, t.sreg, t.pc))
      = some (0x5#8, 0x0#8, 0x101#22) := by decide
/-- `andi r17,$00` -/
theorem test_andi_2 :
    after ({ machine (ref) 0x100 [(17, 0xa5#8)] [(0x200, 0x10#8), (0x201, 0x70#8)] [] [] with sreg := 0x8#8 })
      (fun t => (t.reg 17, t.sreg, t.pc))
      = some (0x0#8, 0x2#8, 0x101#22) := by decide
/-- `or r15,r16` -/
theorem test_or_1 :
    after ({ machine (ref) 0x100 [(15, 0x0#8), (16, 0x0#8)] [(0x200, 0xf0#8), (0x201, 0x2a#8)] [] [] with sreg := 0x8#8 })
      (fun t => (t.reg 15, t.sreg, t.pc))
      = some (0x0#8, 0x2#8, 0x101#22) := by decide
/-- `ori r16,$F0` -/
theorem test_ori_1 :
    after ({ machine (ref) 0x100 [(16, 0xa#8)] [(0x200, 0x0#8), (0x201, 0x6f#8)] [] [] with sreg := 0x0#8 })
      (fun t => (t.reg 16, t.sreg, t.pc))
      = some (0xfa#8, 0x14#8, 0x101#22) := by decide
/-- `eor r4,r4` -/
theorem test_eor_1 :
    after ({ machine (ref) 0x100 [(4, 0x5a#8)] [(0x200, 0x44#8), (0x201, 0x24#8)] [] [] with sreg := 0x1d#8 })
      (fun t => (t.reg 4, t.sreg, t.pc))
      = some (0x0#8, 0x3#8, 0x101#22) := by decide
/-- `eor r0,r22` -/
theorem test_eor_2 :
    after ({ machine (ref) 0x100 [(0, 0xff#8), (22, 0xf#8)] [(0x200, 0x6#8), (0x201, 0x26#8)] [] [] with sreg := 0x0#8 })
      (fun t => (t.reg 0, t.sreg, t.pc))
      = some (0xf0#8, 0x14#8, 0x101#22) := by decide
/-- `com r4` -/
theorem test_com_1 :
    after ({ machine (ref) 0x100 [(4, 0x0#8)] [(0x200, 0x40#8), (0x201, 0x94#8)] [] [] with sreg := 0x0#8 })
      (fun t => (t.reg 4, t.sreg, t.pc))
      = some (0xff#8, 0x15#8, 0x101#22) := by decide
/-- `com r4` -/
theorem test_com_2 :
    after ({ machine (ref) 0x100 [(4, 0xff#8)] [(0x200, 0x40#8), (0x201, 0x94#8)] [] [] with sreg := 0x0#8 })
      (fun t => (t.reg 4, t.sreg, t.pc))
      = some (0x0#8, 0x3#8, 0x101#22) := by decide
/-- `neg r11` -/
theorem test_neg_1 :
    after ({ machine (ref) 0x100 [(11, 0x80#8)] [(0x200, 0xb1#8), (0x201, 0x94#8)] [] [] with sreg := 0x0#8 })
      (fun t => (t.reg 11, t.sreg, t.pc))
      = some (0x80#8, 0xd#8, 0x101#22) := by decide
/-- `neg r11` -/
theorem test_neg_2 :
    after ({ machine (ref) 0x100 [(11, 0x0#8)] [(0x200, 0xb1#8), (0x201, 0x94#8)] [] [] with sreg := 0x1#8 })
      (fun t => (t.reg 11, t.sreg, t.pc))
      = some (0x0#8, 0x2#8, 0x101#22) := by decide
/-- `inc r4` -/
theorem test_inc_1 :
    after ({ machine (ref) 0x100 [(4, 0x7f#8)] [(0x200, 0x43#8), (0x201, 0x94#8)] [] [] with sreg := 0x1#8 })
      (fun t => (t.reg 4, t.sreg, t.pc))
      = some (0x80#8, 0xd#8, 0x101#22) := by decide
/-- `inc r4` -/
theorem test_inc_2 :
    after ({ machine (ref) 0x100 [(4, 0xff#8)] [(0x200, 0x43#8), (0x201, 0x94#8)] [] [] with sreg := 0x0#8 })
      (fun t => (t.reg 4, t.sreg, t.pc))
      = some (0x0#8, 0x2#8, 0x101#22) := by decide
/-- `dec r17` -/
theorem test_dec_1 :
    after ({ machine (ref) 0x100 [(17, 0x80#8)] [(0x200, 0x1a#8), (0x201, 0x95#8)] [] [] with sreg := 0x0#8 })
      (fun t => (t.reg 17, t.sreg, t.pc))
      = some (0x7f#8, 0x18#8, 0x101#22) := by decide
/-- `dec r17` -/
theorem test_dec_2 :
    after ({ machine (ref) 0x100 [(17, 0x0#8)] [(0x200, 0x1a#8), (0x201, 0x95#8)] [] [] with sreg := 0x1#8 })
      (fun t => (t.reg 17, t.sreg, t.pc))
      = some (0xff#8, 0x15#8, 0x101#22) := by decide
/-- `tst r0` -/
theorem test_tst_1 :
    (match exec (.tst 0) ({ machine (ref) 0x100 [(0, 0x80#8)] [(0x200, 0x0#8), (0x201, 0x20#8)] [] [] with sreg := 0x9#8 }) with
      | .next t => some (t.reg 0, t.sreg, t.pc)
      | _ => none)
      = some (0x80#8, 0x15#8, 0x101#22) := by decide
/-- `tst r0` -/
theorem test_tst_2 :
    (match exec (.tst 0) ({ machine (ref) 0x100 [(0, 0x0#8)] [(0x200, 0x0#8), (0x201, 0x20#8)] [] [] with sreg := 0x0#8 }) with
      | .next t => some (t.reg 0, t.sreg, t.pc)
      | _ => none)
      = some (0x0#8, 0x2#8, 0x101#22) := by decide
/-- `clr r18` -/
theorem test_clr_1 :
    (match exec (.clr 18) ({ machine (ref) 0x100 [(18, 0xc3#8)] [(0x200, 0x22#8), (0x201, 0x27#8)] [] [] with sreg := 0xff#8 }) with
      | .next t => some (t.reg 18, t.sreg, t.pc)
      | _ => none)
      = some (0x0#8, 0xe3#8, 0x101#22) := by decide
/-- `ser r17` -/
theorem test_ser_1 :
    (match exec (.ser 17) ({ machine (ref) 0x100 [(17, 0x0#8)] [(0x200, 0x1f#8), (0x201, 0xef#8)] [] [] with sreg := 0x2#8 }) with
      | .next t => some (t.reg 17, t.sreg, t.pc)
      | _ => none)
      = some (0xff#8, 0x2#8, 0x101#22) := by decide
/-- `sbr r16,3` -/
theorem test_sbr_1 :
    (match exec (.sbr 16 0x3#8) ({ machine (ref) 0x100 [(16, 0x80#8)] [(0x200, 0x3#8), (0x201, 0x60#8)] [] [] with sreg := 0x0#8 }) with
      | .next t => some (t.reg 16, t.sreg, t.pc)
      | _ => none)
      = some (0x83#8, 0x14#8, 0x101#22) := by decide
/-- `cbr r16,$F0` -/
theorem test_cbr_1 :
    (match exec (.cbr 16 0xf0#8) ({ machine (ref) 0x100 [(16, 0xa5#8)] [(0x200, 0xf#8), (0x201, 0x70#8)] [] [] with sreg := 0x0#8 }) with
      | .next t => some (t.reg 16, t.sreg, t.pc)
      | _ => none)
      = some (0x5#8, 0x0#8, 0x101#22) := by decide
/-- `cbr r18,1` -/
theorem test_cbr_2 :
    (match exec (.cbr 18 0x1#8) ({ machine (ref) 0x100 [(18, 0x1#8)] [(0x200, 0x2e#8), (0x201, 0x7f#8)] [] [] with sreg := 0x0#8 }) with
      | .next t => some (t.reg 18, t.sreg, t.pc)
      | _ => none)
      = some (0x0#8, 0x2#8, 0x101#22) := by decide
/-- `mul r5,r4` -/
theorem test_mul_1 :
    after ({ machine (ref) 0x100 [(4, 0xff#8), (5, 0xff#8)] [(0x200, 0x54#8), (0x201, 0x9c#8)] [] [] with sreg := 0x0#8 })
      (fun t => (t.pair 0, t.sreg, t.pc))
      = some (0xfe01#16, 0x1#8, 0x101#22) := by decide
/-- `mul r5,r4` -/
theorem test_mul_2 :
    after ({ machine (ref) 0x100 [(4, 0xff#8), (5, 0x0#8)] [(0x200, 0x54#8), (0x201, 0x9c#8)] [] [] with sreg := 0x1#8 })
      (fun t => (t.pair 0, t.sreg, t.pc))
      = some (0x0#16, 0x2#8, 0x101#22) := by decide
/-- `muls r21,r20` -/
theorem test_muls_1 :
    after ({ machine (ref) 0x100 [(20, 0xff#8), (21, 0xff#8)] [(0x200, 0x54#8), (0x201, 0x2#8)] [] [] with sreg := 0x0#8 })
      (fun t => (t.pair 0, t.sreg, t.pc))
      = some (0x1#16, 0x0#8, 0x101#22) := by decide
/-- `muls r21,r20` -/
theorem test_muls_2 :
    after ({ machine (ref) 0x100 [(20, 0x80#8), (21, 0x80#8)] [(0x200, 0x54#8), (0x201, 0x2#8)] [] [] with sreg := 0x0#8 })
      (fun t => (t.pair 0, t.sreg, t.pc))
      = some (0x4000#16, 0x0#8, 0x101#22) := by decide
/-- `mulsu r23,r20` -/
theorem test_mulsu_1 :
    after ({ machine (ref) 0x100 [(20, 0xff#8), (23, 0xff#8)] [(0x200, 0x74#8), (0x201, 0x3#8)] [] [] with sreg := 0x0#8 })
      (fun t => (t.pair 0, t.sreg, t.pc))
      = some (0xff01#16, 0x1#8, 0x101#22) := by decide
/-- `mulsu r23,r20` -/
theorem test_mulsu_2 :
    after ({ machine (ref) 0x100 [(20, 0xff#8), (23, 0x7f#8)] [(0x200, 0x74#8), (0x201, 0x3#8)] [] [] with sreg := 0x0#8 })
      (fun t => (t.pair 0, t.sreg, t.pc))
      = some (0x7e81#16, 0x0#8, 0x101#22) := by decide
/-- `fmul r22,r20` -/
theorem test_fmul_1 :
    after ({ machine (ref) 0x100 [(20, 0x80#8), (22, 0x80#8)] [(0x200, 0x6c#8), (0x201, 0x3#8)] [] [] with sreg := 0x0#8 })
      (fun t => (t.pair 0, t.sreg, t.pc))
      = some (0x8000#16, 0x0#8, 0x101#22) := by decide
/-- `fmul r22,r20` -/
theorem test_fmul_2 :
    after ({ machine (ref) 0x100 [(20, 0xff#8), (22, 0xff#8)] [(0x200, 0x6c#8), (0x201, 0x3#8)] [] [] with sreg := 0x0#8 })
      (fun t => (t.pair 0, t.sreg, t.pc))
      = some (0xfc02#16, 0x1#8, 0x101#22) := by decide
/-- `fmuls r23,r22` -/
theorem test_fmuls_1 :
    after ({ machine (ref) 0x100 [(22, 0x80#8), (23, 0x80#8)] [(0x200, 0xf6#8), (0x201, 0x3#8)] [] [] with sreg := 0x0#8 })
      (fun t => (t.pair 0, t.sreg, t.pc))
      = some (0x8000#16, 0x0#8, 0x101#22) := by decide
/-- `fmuls r23,r22` -/
theorem test_fmuls_2 :
    after ({ machine (ref) 0x100 [(22, 0xc0#8), (23, 0x40#8)] [(0x200, 0xf6#8), (0x201, 0x3#8)] [] [] with sreg := 0x0#8 })
      (fun t => (t.pair 0, t.sreg, t.pc))
      = some (0xe000#16, 0x1#8, 0x101#22) := by decide
/-- `fmulsu r23,r20` -/
theorem test_fmulsu_1 :
    after ({ machine (ref) 0x100 [(20, 0xff#8), (23, 0x80#8)] [(0x200, 0xfc#8), (0x201, 0x3#8)] [] [] with sreg := 0x0#8 })
      (fun t => (t.pair 0, t.sreg, t.pc))
      = some (0x100#16, 0x1#8, 0x101#22) := by decide
/-- `fmulsu r23,r20` -/
theorem test_fmulsu_2 :
    after ({ machine (ref) 0x100 [(20, 0x80#8), (23, 0xc0#8)] [(0x200, 0xfc#8), (0x201, 0x3#8)] [] [] with sreg := 0x0#8 })
      (fun t => (t.pair 0, t.sreg, t.pc))
      = some (0xc000#16, 0x1#8, 0x101#22) := by decide
/-- `rjmp $0100` -/
theorem test_rjmp_1 :
    after ({ machine (ref) 0x100 [] [(0x200, 0xff#8), (0x201, 0xcf#8)] [] [] with sreg := 0x0#8 })
      (fun t => (t.sreg, t.pc))
      = some (0x0#8, 0x100#22) := by decide
/-- `rjmp $0900` -/
theorem test_rjmp_2 :
    after ({ machine (ref) 0x100 [] [(0x200, 0xff#8), (0x201, 0xc7#8)] [] [] with sreg := 0x0#8 })
      (fun t => (t.sreg, t.pc))
      = some (0x0#8, 0x900#22) := by decide
/-- `jmp $1234` -/
theorem test_jmp_1 :
    after ({ machine (ref) 0x100 [] [(0x200, 0xc#8), (0x201, 0x94#8), (0x202, 0x34#8), (0x203, 0x12#8)] [] [] with sreg := 0x0#8 })
      (fun t => (t.sreg, t.pc))
      = some (0x0#8, 0x1234#22) := by decide
/-- `jmp $3FFFFF` -/
theorem test_jmp_2 :
    after ({ machine ({ ref with pcBits := 22, flashEnd := 0x3FFFFF }) 0x100 [] [(0x200, 0xfd#8), (0x201, 0x95#8), (0x202, 0xff#8), (0x203, 0xff#8)] [] [] with sreg := 0x0#8 })
      (fun t => (t.sreg, t.pc))
      = some (0x0#8, 0x3fffff#22) := by decide
/-- `ijmp` -/
theorem test_ijmp_1 :
    after ({ machine (ref) 0x100 [(30, 0x0#8), (31, 0x2#8)] [(0x200, 0x9#8), (0x201, 0x94#8)] [] [] with sreg := 0x0#8 })
      (fun t => (t.sreg, t.pc))
      = some (0x0#8, 0x200#22) := by decide
/-- `ijmp` -/
theorem test_ijmp_2 :
    after ({ machine ({ ref with pcBits := 22, flashEnd := 0x3FFFFF }) 0x20100 [(30, 0x0#8), (31, 0x2#8)] [(0x40200, 0x9#8), (0x40201, 0x94#8)] [] [] with sreg := 0x0#8 })
      (fun t => (t.sreg, t.pc))
      = some (0x0#8, 0x200#22) := by decide
/-- `eijmp` -/
theorem test_eijmp_1 :
    after ({ machine ({ ref with pcBits := 22, flashEnd := 0x3FFFFF, hasEind := true }) 0x100 [(30, 0x0#8), (31, 0x10#8)] [(0x200, 0x19#8), (0x201, 0x94#8)] [] [] with eind := 0x5#8, sreg := 0x0#8 })
      (fun t => (t.eind, t.sreg, t.pc))
      = some (0x5#8, 0x0#8, 0x51000#22) := by decide
/-- `eijmp` -/
theorem test_eijmp_2 :
    after ({ machine ({ ref with pcBits := 22, flashEnd := 0x3FFFFF, hasEind := true }) 0x100 [(30, 0x0#8), (31, 0x10#8)] [(0x200, 0x19#8), (0x201, 0x94#8)] [] [] with eind := 0xc5#8, sreg := 0x0#8 })
      (fun t => (t.eind, t.sreg, t.pc))
      = some (0xc5#8, 0x0#8, 0x51000#22) := by decide
/-- `rcall $0200` -/
theorem test_rcall_1 :
    after ({ machine (ref) 0x123 [] [(0x246, 0xdc#8), (0x247, 0xd0#8)] [] [] with sp := 0x8ff#16, sreg := 0x0#8 })
      (fun t => (peek t 0x08FF, peek t 0x08FE, t.sp, t.sreg, t.pc))
      = some (some 0x24#8, some 0x1#8, 0x8fd#16, 0x0#8, 0x200#22) := by decide
/-- `rcall $0124` -/
theorem test_rcall_2 :
    after ({ machine (ref) 0x123 [] [(0x246, 0x0#8), (0x247, 0xd0#8)] [] [] with sp := 0x8ff#16, sreg := 0x0#8 })
      (fun t => (peek t 0x08FF, peek t 0x08FE, t.sp, t.sreg, t.pc))
      = some (some 0x24#8, some 0x1#8, 0x8fd#16, 0x0#8, 0x124#22) := by decide
/-- `call $1234` -/
theorem test_call_1 :
    after ({ machine (ref) 0x123 [] [(0x246, 0xe#8), (0x247, 0x94#8), (0x248, 0x34#8), (0x249, 0x12#8)] [] [] with sp := 0x8ff#16, sreg := 0x0#8 })
      (fun t => (peek t 0x08FF, peek t 0x08FE, t.sp, t.sreg, t.pc))
      = some (some 0x25#8, some 0x1#8, 0x8fd#16, 0x0#8, 0x1234#22) := by decide
/-- `call $012345` -/
theorem test_call_2 :
    after ({ machine ({ ref with pcBits := 22, flashEnd := 0x3FFFFF }) 0x10123 [] [(0x20246, 0xf#8), (0x20247, 0x94#8), (0x20248, 0x45#8), (0x20249, 0x23#8)] [] [] with sp := 0x8ff#16, sreg := 0x0#8 })
      (fun t => (peek t 0x08FF, peek t 0x08FE, peek t 0x08FD, t.sp, t.sreg, t.pc))
      = some (some 0x25#8, some 0x1#8, some 0x1#8, 0x8fc#16, 0x0#8, 0x12345#22) := by decide
/-- `icall` -/
theorem test_icall_1 :
    after ({ machine (ref) 0x123 [(30, 0x0#8), (31, 0x2#8)] [(0x246, 0x9#8), (0x247, 0x95#8)] [] [] with sp := 0x8ff#16, sreg := 0x0#8 })
      (fun t => (peek t 0x08FF, peek t 0x08FE, t.sp, t.sreg, t.pc))
      = some (some 0x24#8, some 0x1#8, 0x8fd#16, 0x0#8, 0x200#22) := by decide
/-- `eicall` -/
theorem test_eicall_1 :
    after ({ machine ({ ref with hasEind := true, pcBits := 22, flashEnd := 0x3FFFFF }) 0x123 [(30, 0x0#8), (31, 0x10#8)] [(0x246, 0x19#8), (0x247, 0x95#8)] [] [] with sp := 0x8ff#16, sreg := 0x0#8, eind := 0x05#8 })
      (fun t => (peek t 0x08FF, peek t 0x08FE, peek t 0x08FD, t.sp, t.sreg, t.pc))
      = some (some 0x24#8, some 0x1#8, some 0x0#8, 0x8fc#16, 0x0#8, 0x51000#22) := by decide
/-- `ret` -/
theorem test_ret_1 :
    after ({ machine (ref) 0x200 [] [(0x400, 0x8#8), (0x401, 0x95#8)] [(0x8fe, 0x1#8), (0x8ff, 0x24#8)] [] with sp := 0x8fd#16, sreg := 0x0#8 })
      (fun t => (t.sp, t.sreg, t.pc))
      = some (0x8ff#16, 0x0#8, 0x124#22) := by decide
/-- `ret` -/
theorem test_ret_2 :
    after ({ machine ({ ref with pcBits := 22, flashEnd := 0x3FFFFF }) 0x200 [] [(0x400, 0x8#8), (0x401, 0x95#8)] [(0x8fd, 0xc1#8), (0x8fe, 0x23#8), (0x8ff, 0x45#8)] [] with sp := 0x8fc#16, sreg := 0x0#8 })
      (fun t => (t.sp, t.sreg, t.pc))
      = some (0x8ff#16, 0x0#8, 0x12345#22) := by decide
/-- `reti` -/
theorem test_reti_1 :
    after ({ machine (ref) 0x200 [] [(0x400, 0x18#8), (0x401, 0x95#8)] [(0x8fe, 0x1#8), (0x8ff, 0x24#8)] [] with sp := 0x8fd#16, sreg := 0x2#8 })
      (fun t => (t.sp, t.sreg, t.pc))
      = some (0x8ff#16, 0x82#8, 0x124#22) := by decide
/-- `cp r16,r17` -/
theorem test_cp_1 :
    after ({ machine (ref) 0x100 [(16, 0x80#8), (17, 0x1#8)] [(0x200, 0x1#8), (0x201, 0x17#8)] [] [] with sreg := 0x0#8 })
      (fun t => (t.sreg, t.pc))
      = some (0x38#8, 0x101#22) := by decide
/-- `cp r16,r17` -/
theorem test_cp_2 :
    after ({ machine (ref) 0x100 [(16, 0x1#8), (17, 0x80#8)] [(0x200, 0x1#8), (0x201, 0x17#8)] [] [] with sreg := 0x0#8 })
      (fun t => (t.sreg, t.pc))
      = some (0xd#8, 0x101#22) := by decide
/-- `cpc r3,r1` -/
theorem test_cpc_1 :
    after ({ machine (ref) 0x100 [(1, 0x12#8), (3, 0x12#8)] [(0x200, 0x31#8), (0x201, 0x4#8)] [] [] with sreg := 0x2#8 })
      (fun t => (t.sreg, t.pc))
      = some (0x2#8, 0x101#22) := by decide
/-- `cpc r3,r1` -/
theorem test_cpc_2 :
    after ({ machine (ref) 0x100 [(1, 0x12#8), (3, 0x12#8)] [(0x200, 0x31#8), (0x201, 0x4#8)] [] [] with sreg := 0x0#8 })
      (fun t => (t.sreg, t.pc))
      = some (0x0#8, 0x101#22) := by decide
/-- `cpi r19,3` -/
theorem test_cpi_1 :
    after ({ machine (ref) 0x100 [(19, 0x3#8)] [(0x200, 0x33#8), (0x201, 0x30#8)] [] [] with sreg := 0x0#8 })
      (fun t => (t.sreg, t.pc))
      = some (0x2#8, 0x101#22) := by decide
/-- `cpi r19,$FF` -/
theorem test_cpi_2 :
    after ({ machine (ref) 0x100 [(19, 0x0#8)] [(0x200, 0x3f#8), (0x201, 0x3f#8)] [] [] with sreg := 0x0#8 })
      (fun t => (t.sreg, t.pc))
      = some (0x21#8, 0x101#22) := by decide
/-- `cpse r4,r0` -/
theorem test_cpse_1 :
    after ({ machine (ref) 0x100 [(0, 0x11#8), (4, 0x11#8)] [(0x200, 0x40#8), (0x201, 0x10#8), (0x202, 0x41#8), (0x203, 0x94#8)] [] [] with sreg := 0x0#8 })
      (fun t => (t.sreg, t.pc))
      = some (0x0#8, 0x102#22) := by decide
/-- `cpse r4,r0` -/
theorem test_cpse_2 :
    after ({ machine (ref) 0x100 [(0, 0x11#8), (4, 0x11#8)] [(0x200, 0x40#8), (0x201, 0x10#8), (0x202, 0xc#8), (0x203, 0x94#8), (0x204, 0x34#8), (0x205, 0x12#8)] [] [] with sreg := 0x0#8 })
      (fun t => (t.sreg, t.pc))
      = some (0x0#8, 0x103#22) := by decide
/-- `sbrc r0,7` -/
theorem test_sbrc_1 :
    after ({ machine (ref) 0x100 [(0, 0x7f#8)] [(0x200, 0x7#8), (0x201, 0xfc#8), (0x202, 0x1#8), (0x203, 0x18#8)] [] [] with sreg := 0x0#8 })
      (fun t => (t.sreg, t.pc))
      = some (0x0#8, 0x102#22) := by decide
/-- `sbrc r0,7` -/
theorem test_sbrc_2 :
    after ({ machine (ref) 0x100 [(0, 0x80#8)] [(0x200, 0x7#8), (0x201, 0xfc#8), (0x202, 0x1#8), (0x203, 0x18#8)] [] [] with sreg := 0x0#8 })
      (fun t => (t.sreg, t.pc))
      = some (0x0#8, 0x101#22) := by decide
/-- `sbrs r0,7` -/
theorem test_sbrs_1 :
    after ({ machine (ref) 0x100 [(0, 0x80#8)] [(0x200, 0x7#8), (0x201, 0xfe#8), (0x202, 0xe#8), (0x203, 0x94#8), (0x204, 0x0#8), (0x205, 0x2#8)] [] [] with sreg := 0x0#8 })
      (fun t => (t.sreg, t.pc))
      = some (0x0#8, 0x103#22) := by decide
/-- `sbrs r0,0` -/
theorem test_sbrs_2 :
    after ({ machine (ref) 0x100 [(0, 0xfe#8)] [(0x200, 0x0#8), (0x201, 0xfe#8), (0x202, 0x1#8), (0x203, 0x94#8)] [] [] with sreg := 0x0#8 })
      (fun t => (t.sreg, t.pc))
      = some (0x0#8, 0x101#22) := by decide
/-- `sbic $1C,1` -/
theorem test_sbic_1 :
    after ({ machine (ref) 0x100 [] [(0x200, 0xe1#8), (0x201, 0x99#8), (0x202, 0xfe#8), (0x203, 0xcf#8)] [] [(0x1c, 0x0#8)] with sreg := 0x0#8 })
      (fun t => (t.ioDev.read 0x1C, t.sreg, t.pc))
      = some (some 0x0#8, 0x0#8, 0x102#22) := by decide
/-- `sbic $1C,1` -/
theorem test_sbic_2 :
    after ({ machine (ref) 0x100 [] [(0x200, 0xe1#8), (0x201, 0x99#8), (0x202, 0xfe#8), (0x203, 0xcf#8)] [] [(0x1c, 0x2#8)] with sreg := 0x0#8 })
      (fun t => (t.ioDev.read 0x1C, t.sreg, t.pc))
      = some (some 0x2#8, 0x0#8, 0x101#22) := by decide
/-- `sbis $10,0` -/
theorem test_sbis_1 :
    after ({ machine (ref) 0x100 [] [(0x200, 0x80#8), (0x201, 0x9b#8), (0x202, 0x0#8), (0x203, 0x90#8), (0x204, 0x0#8), (0x205, 0x1#8)] [] [(0x10, 0x1#8)] with sreg := 0x0#8 })
      (fun t => (t.ioDev.read 0x10, t.sreg, t.pc))
      = some (some 0x1#8, 0x0#8, 0x103#22) := by decide
/-- `sbis $10,0` -/
theorem test_sbis_2 :
    after ({ machine (ref) 0x100 [] [(0x200, 0x80#8), (0x201, 0x9b#8), (0x202, 0xfe#8), (0x203, 0xcf#8)] [] [(0x10, 0xfe#8)] with sreg := 0x0#8 })
      (fun t => (t.ioDev.read 0x10, t.sreg, t.pc))
      = some (some 0xfe#8, 0x0#8, 0x101#22) := by decide
/-- `brbs 1,$0110` -/
theorem test_brbs_1 :
    after ({ machine (ref) 0x100 [] [(0x200, 0x79#8), (0x201, 0xf0#8)] [] [] with sreg := 0x2#8 })
      (fun t => (t.sreg, t.pc))
      = some (0x2#8, 0x110#22) := by decide
/-- `brbs 1,$0110` -/
theorem test_brbs_2 :
    after ({ machine (ref) 0x100 [] [(0x200, 0x79#8), (0x201, 0xf0#8)] [] [] with sreg := 0xfd#8 })
      (fun t => (t.sreg, t.pc))
      = some (0xfd#8, 0x101#22) := by decide
/-- `brbc 1,$00C1` -/
theorem test_brbc_1 :
    after ({ machine (ref) 0x100 [] [(0x200, 0x1#8), (0x201, 0xf6#8)] [] [] with sreg := 0x0#8 })
      (fun t => (t.sreg, t.pc))
      = some (0x0#8, 0xc1#22) := by decide
/-- `brbc 0,$0140` -/
theorem test_brbc_2 :
    after ({ machine (ref) 0x100 [] [(0x200, 0xf8#8), (0x201, 0xf5#8)] [] [] with sreg := 0x0#8 })
      (fun t => (t.sreg, t.pc))
      = some (0x0#8, 0x140#22) := by decide
/-- `breq $0100` -/
theorem test_breq_1 :
    (match exec (.breq 0x7f#7) ({ machine (ref) 0x100 [] [(0x200, 0xf9#8), (0x201, 0xf3#8)] [] [] with sreg := 0x2#8 }) with
      | .next t => some (t.sreg, t.pc)
      | _ => none)
      = some (0x2#8, 0x100#22) := by decide
/-- `brne $0102` -/
theorem test_brne_1 :
    (match exec (.brne 0x1#7) ({ machine (ref) 0x100 [] [(0x200, 0x9#8), (0x201, 0xf4#8)] [] [] with sreg := 0x2#8 }) with
      | .next t => some (t.sreg, t.pc)
      | _ => none)
      = some (0x2#8, 0x101#22) := by decide
/-- `brcs $0105` -/
theorem test_brcs_1 :
    (match exec (.brcs 0x4#7) ({ machine (ref) 0x100 [] [(0x200, 0x20#8), (0x201, 0xf0#8)] [] [] with sreg := 0x1#8 }) with
      | .next t => some (t.sreg, t.pc)
      | _ => none)
      = some (0x1#8, 0x105#22) := by decide
/-- `brlo $0105` -/
theorem test_brlo_1 :
    (match exec (.brlo 0x4#7) ({ machine (ref) 0x100 [] [(0x200, 0x20#8), (0x201, 0xf0#8)] [] [] with sreg := 0x1#8 }) with
      | .next t => some (t.sreg, t.pc)
      | _ => none)
      = some (0x1#8, 0x105#22) := by decide
/-- `brcc $0105` -/
theorem test_brcc_1 :
    (match exec (.brcc 0x4#7) ({ machine (ref) 0x100 [] [(0x200, 0x20#8), (0x201, 0xf4#8)] [] [] with sreg := 0x1#8 }) with
      | .next t => some (t.sreg, t.pc)
      | _ => none)
      = some (0x1#8, 0x101#22) := by decide
/-- `brsh $0105` -/
theorem test_brsh_1 :
    (match exec (.brsh 0x4#7) ({ machine (ref) 0x100 [] [(0x200, 0x20#8), (0x201, 0xf4#8)] [] [] with sreg := 0x0#8 }) with
      | .next t => some (t.sreg, t.pc)
      | _ => none)
      = some (0x0#8, 0x105#22) := by decide
/-- `brmi $0105` -/
theorem test_brmi_1 :
    (match exec (.brmi 0x4#7) ({ machine (ref) 0x100 [] [(0x200, 0x22#8), (0x201, 0xf0#8)] [] [] with sreg := 0x4#8 }) with
      | .next t => some (t.sreg, t.pc)
      | _ => none)
      = some (0x4#8, 0x105#22) := by decide
/-- `brpl $0105` -/
theorem test_brpl_1 :
    (match exec (.brpl 0x4#7) ({ machine (ref) 0x100 [] [(0x200, 0x22#8), (0x201, 0xf4#8)] [] [] with sreg := 0x4#8 }) with
      | .next t => some (t.sreg, t.pc)
      | _ => none)
      = some (0x4#8, 0x101#22) := by decide
/-- `brge $0105` -/
theorem test_brge_1 :
    (match exec (.brge 0x4#7) ({ machine (ref) 0x100 [] [(0x200, 0x24#8), (0x201, 0xf4#8)] [] [] with sreg := 0xc#8 }) with
      | .next t => some (t.sreg, t.pc)
      | _ => none)
      = some (0xc#8, 0x105#22) := by decide
/-- `brlt $0105` -/
theorem test_brlt_1 :
    (match exec (.brlt 0x4#7) ({ machine (ref) 0x100 [] [(0x200, 0x24#8), (0x201, 0xf0#8)] [] [] with sreg := 0x14#8 }) with
      | .next t => some (t.sreg, t.pc)
      | _ => none)
      = some (0x14#8, 0x105#22) := by decide
/-- `brlt $0105` -/
theorem test_brlt_2 :
    (match exec (.brlt 0x4#7) ({ machine (ref) 0x100 [] [(0x200, 0x24#8), (0x201, 0xf0#8)] [] [] with sreg := 0x4#8 }) with
      | .next t => some (t.sreg, t.pc)
      | _ => none)
      = some (0x4#8, 0x101#22) := by decide
/-- `brhs $0105` -/
theorem test_brhs_1 :
    (match exec (.brhs 0x4#7) ({ machine (ref) 0x100 [] [(0x200, 0x25#8), (0x201, 0xf0#8)] [] [] with sreg := 0x20#8 }) with
      | .next t => some (t.sreg, t.pc)
      | _ => none)
      = some (0x20#8, 0x105#22) := by decide
/-- `brhc $0105` -/
theorem test_brhc_1 :
    (match exec (.brhc 0x4#7) ({ machine (ref) 0x100 [] [(0x200, 0x25#8), (0x201, 0xf4#8)] [] [] with sreg := 0x20#8 }) with
      | .next t => some (t.sreg, t.pc)
      | _ => none)
      = some (0x20#8, 0x101#22) := by decide
/-- `brts $0105` -/
theorem test_brts_1 :
    (match exec (.brts 0x4#7) ({ machine (ref) 0x100 [] [(0x200, 0x26#8), (0x201, 0xf0#8)] [] [] with sreg := 0x40#8 }) with
      | .next t => some (t.sreg, t.pc)
      | _ => none)
      = some (0x40#8, 0x105#22) := by decide
/-- `brtc $0105` -/
theorem test_brtc_1 :
    (match exec (.brtc 0x4#7) ({ machine (ref) 0x100 [] [(0x200, 0x26#8), (0x201, 0xf4#8)] [] [] with sreg := 0x40#8 }) with
      | .next t => some (t.sreg, t.pc)
      | _ => none)
      = some (0x40#8, 0x101#22) := by decide
/-- `brvs $0105` -/
theorem test_brvs_1 :
    (match exec (.brvs 0x4#7) ({ machine (ref) 0x100 [] [(0x200, 0x23#8), (0x201, 0xf0#8)] [] [] with sreg := 0x8#8 }) with
      | .next t => some (t.sreg, t.pc)
      | _ => none)
      = some (0x8#8, 0x105#22) := by decide
/-- `brvc $0105` -/
theorem test_brvc_1 :
    (match exec (.brvc 0x4#7) ({ machine (ref) 0x100 [] [(0x200, 0x23#8), (0x201, 0xf4#8)] [] [] with sreg := 0x8#8 }) with
      | .next t => some (t.sreg, t.pc)
      | _ => none)
      = some (0x8#8, 0x101#22) := by decide
/-- `brie $0105` -/
theorem test_brie_1 :
    (match exec (.brie 0x4#7) ({ machine (ref) 0x100 [] [(0x200, 0x27#8), (0x201, 0xf0#8)] [] [] with sreg := 0x80#8 }) with
      | .next t => some (t.sreg, t.pc)
      | _ => none)
      = some (0x80#8, 0x105#22) := by decide
/-- `brid $0105` -/
theorem test_brid_1 :
    (match exec (.brid 0x4#7) ({ machine (ref) 0x100 [] [(0x200, 0x27#8), (0x201, 0xf4#8)] [] [] with sreg := 0x80#8 }) with
      | .next t => some (t.sreg, t.pc)
      | _ => none)
      = some (0x80#8, 0x101#22) := by decide
/-- `mov r16,r0` -/
theorem test_mov_1 :
    after ({ machine (ref) 0x100 [(0, 0x5a#8), (16, 0x0#8)] [(0x200, 0x0#8), (0x201, 0x2d#8)] [] [] with sreg := 0xff#8 })
      (fun t => (t.reg 16, t.reg 0, t.sreg, t.pc))
      = some (0x5a#8, 0x5a#8, 0xff#8, 0x101#22) := by decide
/-- `mov r7,r7` -/
theorem test_mov_2 :
    after ({ machine (ref) 0x100 [(7, 0x99#8)] [(0x200, 0x77#8), (0x201, 0x2c#8)] [] [] with sreg := 0x0#8 })
      (fun t => (t.reg 7, t.sreg, t.pc))
      = some (0x99#8, 0x0#8, 0x101#22) := by decide
/-- `movw r17:16,r1:r0` -/
theorem test_movw_1 :
    after ({ machine (ref) 0x100 [(0, 0x34#8), (1, 0x12#8), (16, 0x0#8), (17, 0x0#8)] [(0x200, 0x80#8), (0x201, 0x1#8)] [] [] with sreg := 0x0#8 })
      (fun t => (t.reg 16, t.reg 17, t.sreg, t.pc))
      = some (0x34#8, 0x12#8, 0x0#8, 0x101#22) := by decide
/-- `movw r31:r30,r31:r30` -/
theorem test_movw_2 :
    after ({ machine (ref) 0x100 [(30, 0xcd#8), (31, 0xab#8)] [(0x200, 0xff#8), (0x201, 0x1#8)] [] [] with sreg := 0x0#8 })
      (fun t => (t.reg 30, t.reg 31, t.sreg, t.pc))
      = some (0xcd#8, 0xab#8, 0x0#8, 0x101#22) := by decide
/-- `ldi r16,$FF` -/
theorem test_ldi_1 :
    after ({ machine (ref) 0x100 [(16, 0x0#8)] [(0x200, 0xf#8), (0x201, 0xef#8)] [] [] with sreg := 0x0#8 })
      (fun t => (t.reg 16, t.sreg, t.pc))
      = some (0xff#8, 0x0#8, 0x101#22) := by decide
/-- `ldi r31,$00` -/
theorem test_ldi_2 :
    after ({ machine (ref) 0x100 [(31, 0x77#8)] [(0x200, 0xf0#8), (0x201, 0xe0#8)] [] [] with sreg := 0x0#8 })
      (fun t => (t.reg 31, t.sreg, t.pc))
      = some (0x0#8, 0x0#8, 0x101#22) := by decide
/-- `lds r2,$0160` -/
theorem test_lds_1 :
    after ({ machine (ref) 0x100 [(2, 0x0#8)] [(0x200, 0x20#8), (0x201, 0x90#8), (0x202, 0x60#8), (0x203, 0x1#8)] [(0x160, 0xab#8)] [] with sreg := 0x0#8 })
      (fun t => (t.reg 2, t.sreg, t.pc))
      = some (0xab#8, 0x0#8, 0x102#22) := by decide
/-- `lds r2,$005F` -/
theorem test_lds_2 :
    after ({ machine (ref) 0x100 [(2, 0x0#8)] [(0x200, 0x20#8), (0x201, 0x90#8), (0x202, 0x5f#8), (0x203, 0x0#8)] [] [] with sreg := 0x81#8 })
      (fun t => (t.reg 2, t.sreg, t.pc))
      = some (0x81#8, 0x81#8, 0x102#22) := by decide
/-- `sts $0160,r2` -/
theorem test_sts_1 :
    after ({ machine (ref) 0x100 [(2, 0xcd#8)] [(0x200, 0x20#8), (0x201, 0x92#8), (0x202, 0x60#8), (0x203, 0x1#8)] [] [] with sreg := 0x0#8 })
      (fun t => (peek t 0x0160, t.sreg, t.pc))
      = some (some 0xcd#8, 0x0#8, 0x102#22) := by decide
/-- `sts $005F,r2` -/
theorem test_sts_2 :
    after ({ machine (ref) 0x100 [(2, 0x80#8)] [(0x200, 0x20#8), (0x201, 0x92#8), (0x202, 0x5f#8), (0x203, 0x0#8)] [] [] with sreg := 0x2#8 })
      (fun t => (t.sreg, t.pc))
      = some (0x80#8, 0x102#22) := by decide
/-- `lds r16,$40` -/
theorem test_lds16_1 :
    after ({ machine ({ ref with reducedCore := true, sramStart := 0x40, ioBase := 0 }) 0x100 [(16, 0x0#8)] [(0x200, 0x0#8), (0x201, 0xa1#8)] [(0x40, 0x11#8)] [] with sreg := 0x0#8 })
      (fun t => (t.reg 16, t.sreg, t.pc))
      = some (0x11#8, 0x0#8, 0x101#22) := by decide
/-- `lds r16,$BF` -/
theorem test_lds16_2 :
    after ({ machine ({ ref with reducedCore := true, sramStart := 0x40, ioBase := 0 }) 0x100 [(16, 0x0#8)] [(0x200, 0xf#8), (0x201, 0xa6#8)] [(0xbf, 0x22#8)] [] with sreg := 0x0#8 })
      (fun t => (t.reg 16, t.sreg, t.pc))
      = some (0x22#8, 0x0#8, 0x101#22) := by decide
/-- `sts $42,r17` -/
theorem test_sts16_1 :
    after ({ machine ({ ref with reducedCore := true, sramStart := 0x40, ioBase := 0 }) 0x100 [(17, 0x99#8)] [(0x200, 0x12#8), (0x201, 0xa9#8)] [] [] with sreg := 0x0#8 })
      (fun t => (peek t 0x0042, t.sreg, t.pc))
      = some (some 0x99#8, 0x0#8, 0x101#22) := by decide
/-- `sts $7F,r16` -/
theorem test_sts16_2 :
    after ({ machine ({ ref with reducedCore := true, sramStart := 0x40, ioBase := 0 }) 0x100 [(16, 0x44#8)] [(0x200, 0xf#8), (0x201, 0xaf#8)] [] [] with sreg := 0x0#8 })
      (fun t => (peek t 0x007F, t.sreg, t.pc))
      = some (some 0x44#8, 0x0#8, 0x101#22) := by decide
/-- `ld r0,X` -/
theorem test_ldX_1 :
    after ({ machine (ref) 0x100 [(0, 0x0#8), (26, 0x60#8), (27, 0x0#8)] [(0x200, 0xc#8), (0x201, 0x90#8)] [(0x60, 0xa1#8)] [] with sreg := 0x0#8 })
      (fun t => (t.reg 0, t.pair 26, t.sreg, t.pc))
      = some (0xa1#8, 0x60#16, 0x0#8, 0x101#22) := by decide
/-- `ld r0,X+` -/
theorem test_ldXInc_1 :
    after ({ machine (ref) 0x100 [(0, 0x0#8), (26, 0xff#8), (27, 0x0#8)] [(0x200, 0xd#8), (0x201, 0x90#8)] [(0xff, 0xa2#8)] [] with sreg := 0x0#8 })
      (fun t => (t.reg 0, t.pair 26, t.sreg, t.pc))
      = some (0xa2#8, 0x100#16, 0x0#8, 0x101#22) := by decide
/-- `ld r0,X+` -/
theorem test_ldXInc_2 :
    after ({ machine ({ ref with ramEnd := 0xFFFF }) 0x100 [(0, 0x0#8), (26, 0xff#8), (27, 0xff#8)] [(0x200, 0xd#8), (0x201, 0x90#8)] [(0xffff, 0xa3#8)] [] with sreg := 0x0#8 })
      (fun t => (t.reg 0, t.pair 26, t.sreg, t.pc))
      = some (0xa3#8, 0x0#16, 0x0#8, 0x101#22) := by decide
/-- `ld r0,-X` -/
theorem test_ldXDec_1 :
    after ({ machine (ref) 0x100 [(0, 0x0#8), (26, 0x0#8), (27, 0x1#8)] [(0x200, 0xe#8), (0x201, 0x90#8)] [(0xff, 0xa4#8)] [] with sreg := 0x0#8 })
      (fun t => (t.reg 0, t.pair 26, t.sreg, t.pc))
      = some (0xa4#8, 0xff#16, 0x0#8, 0x101#22) := by decide
/-- `ld r0,-X` -/
theorem test_ldXDec_2 :
    after ({ machine ({ ref with ramEnd := 0xFFFF }) 0x100 [(0, 0x0#8), (26, 0x0#8), (27, 0x0#8)] [(0x200, 0xe#8), (0x201, 0x90#8)] [(0xffff, 0xa5#8)] [] with sreg := 0x0#8 })
      (fun t => (t.reg 0, t.pair 26, t.sreg, t.pc))
      = some (0xa5#8, 0xffff#16, 0x0#8, 0x101#22) := by decide
/-- `ld r5,X` -/
theorem test_ldX_2 :
    after ({ machine (ref) 0x100 [(5, 0x0#8), (16, 0xee#8), (26, 0x10#8), (27, 0x0#8)] [(0x200, 0x5c#8), (0x201, 0x90#8)] [] [] with sreg := 0x0#8 })
      (fun t => (t.reg 5, t.sreg, t.pc))
      = some (0xee#8, 0x0#8, 0x101#22) := by decide
/-- `ld r1,Y` -/
theorem test_ldY_1 :
    (match exec (.ldY 1) ({ machine (ref) 0x100 [(1, 0x0#8), (28, 0x61#8), (29, 0x0#8)] [(0x200, 0x18#8), (0x201, 0x80#8)] [(0x61, 0xb1#8)] [] with sreg := 0x0#8 }) with
      | .next t => some (t.reg 1, t.sreg, t.pc)
      | _ => none)
      = some (0xb1#8, 0x0#8, 0x101#22) := by decide
/-- `ld r0,Y+` -/
theorem test_ldYInc_1 :
    after ({ machine (ref) 0x100 [(0, 0x0#8), (28, 0x60#8), (29, 0x0#8)] [(0x200, 0x9#8), (0x201, 0x90#8)] [(0x60, 0xb2#8)] [] with sreg := 0x0#8 })
      (fun t => (t.reg 0, t.pair 28, t.sreg, t.pc))
      = some (0xb2#8, 0x61#16, 0x0#8, 0x101#22) := by decide
/-- `ld r3,-Y` -/
theorem test_ldYDec_1 :
    after ({ machine (ref) 0x100 [(3, 0x0#8), (28, 0x63#8), (29, 0x0#8)] [(0x200, 0x3a#8), (0x201, 0x90#8)] [(0x62, 0xb3#8)] [] with sreg := 0x0#8 })
      (fun t => (t.reg 3, t.pair 28, t.sreg, t.pc))
      = some (0xb3#8, 0x62#16, 0x0#8, 0x101#22) := by decide
/-- `ldd r4,Y+63` -/
theorem test_lddY_1 :
    after ({ machine (ref) 0x100 [(4, 0x0#8), (28, 0x1#8), (29, 0x1#8)] [(0x200, 0x4f#8), (0x201, 0xac#8)] [(0x140, 0xb4#8)] [] with sreg := 0x0#8 })
      (fun t => (t.reg 4, t.pair 28, t.sreg, t.pc))
      = some (0xb4#8, 0x101#16, 0x0#8, 0x101#22) := by decide
/-- `ldd r4,Y+2` -/
theorem test_lddY_2 :
    after ({ machine (ref) 0x100 [(1, 0x5c#8), (4, 0x0#8), (28, 0xff#8), (29, 0xff#8)] [(0x200, 0x4a#8), (0x201, 0x80#8)] [] [] with sreg := 0x0#8 })
      (fun t => (t.reg 4, t.sreg, t.pc))
      = some (0x5c#8, 0x0#8, 0x101#22) := by decide
/-- `ldd r4,Z+2` -/
theorem test_lddZ_1 :
    after ({ machine (ref) 0x100 [(4, 0x0#8), (30, 0x62#8), (31, 0x0#8)] [(0x200, 0x42#8), (0x201, 0x80#8)] [(0x64, 0xc1#8)] [] with sreg := 0x0#8 })
      (fun t => (t.reg 4, t.pair 30, t.sreg, t.pc))
      = some (0xc1#8, 0x62#16, 0x0#8, 0x101#22) := by decide
theorem test_ldZInc_undefined :
    faultAfter ({ machine (ref) 0x100 [(30, 0x60#8), (31, 0x0#8)] [(0x200, 0xe1#8), (0x201, 0x91#8)] [] [] with sreg := 0x0#8 })
      = some (.undefinedUse (.pointerLoad .z 30)) := by decide
/-- `st X+,r0` -/
theorem test_stXInc_1 :
    after ({ machine (ref) 0x100 [(0, 0xd1#8), (26, 0x60#8), (27, 0x0#8)] [(0x200, 0xd#8), (0x201, 0x92#8)] [] [] with sreg := 0x0#8 })
      (fun t => (peek t 0x0060, t.pair 26, t.sreg, t.pc))
      = some (some 0xd1#8, 0x61#16, 0x0#8, 0x101#22) := by decide
/-- `st -X,r3` -/
theorem test_stXDec_1 :
    after ({ machine (ref) 0x100 [(3, 0xd2#8), (26, 0x63#8), (27, 0x0#8)] [(0x200, 0x3e#8), (0x201, 0x92#8)] [] [] with sreg := 0x0#8 })
      (fun t => (peek t 0x0062, t.pair 26, t.sreg, t.pc))
      = some (some 0xd2#8, 0x62#16, 0x0#8, 0x101#22) := by decide
/-- `st X,r26` -/
theorem test_stX_1 :
    after ({ machine (ref) 0x100 [(26, 0x60#8), (27, 0x0#8)] [(0x200, 0xac#8), (0x201, 0x93#8)] [] [] with sreg := 0x0#8 })
      (fun t => (peek t 0x0060, t.sreg, t.pc))
      = some (some 0x60#8, 0x0#8, 0x101#22) := by decide
theorem test_stXInc_undefined :
    faultAfter ({ machine (ref) 0x100 [(26, 0x60#8), (27, 0x0#8)] [(0x200, 0xad#8), (0x201, 0x93#8)] [] [] with sreg := 0x0#8 })
      = some (.undefinedUse (.pointerStore .x 26)) := by decide
/-- `st Y,r1` -/
theorem test_stY_1 :
    (match exec (.stY 1) ({ machine (ref) 0x100 [(1, 0x80#8), (28, 0x5f#8), (29, 0x0#8)] [(0x200, 0x18#8), (0x201, 0x82#8)] [] [] with sreg := 0x0#8 }) with
      | .next t => some (t.sreg, t.pc)
      | _ => none)
      = some (0x80#8, 0x101#22) := by decide
/-- `std Y+2,r4` -/
theorem test_stdY_1 :
    after ({ machine (ref) 0x100 [(4, 0xd3#8), (28, 0x62#8), (29, 0x0#8)] [(0x200, 0x4a#8), (0x201, 0x82#8)] [] [] with sreg := 0x0#8 })
      (fun t => (peek t 0x0064, t.pair 28, t.sreg, t.pc))
      = some (some 0xd3#8, 0x62#16, 0x0#8, 0x101#22) := by decide
/-- `std Z+63,r4` -/
theorem test_stdZ_1 :
    after ({ machine (ref) 0x100 [(4, 0xd4#8), (30, 0x0#8), (31, 0x2#8)] [(0x200, 0x47#8), (0x201, 0xae#8)] [] [] with sreg := 0x0#8 })
      (fun t => (peek t 0x023F, t.pair 30, t.sreg, t.pc))
      = some (some 0xd4#8, 0x200#16, 0x0#8, 0x101#22) := by decide
/-- `st Z+,r0` -/
theorem test_stZInc_1 :
    after ({ machine (ref) 0x100 [(0, 0xd5#8), (8, 0x0#8), (30, 0x8#8), (31, 0x0#8)] [(0x200, 0x1#8), (0x201, 0x92#8)] [] [] with sreg := 0x0#8 })
      (fun t => (t.reg 8, t.pair 30, t.sreg, t.pc))
      = some (0xd5#8, 0x9#16, 0x0#8, 0x101#22) := by decide
/-- `in r25,$16` -/
theorem test_ioIn_1 :
    after ({ machine (ref) 0x100 [(25, 0x0#8)] [(0x200, 0x96#8), (0x201, 0xb3#8)] [] [(0x16, 0x4#8)] with sreg := 0x0#8 })
      (fun t => (t.reg 25, t.ioDev.read 0x16, t.sreg, t.pc))
      = some (0x4#8, some 0x4#8, 0x0#8, 0x101#22) := by decide
/-- `in r1,$3F` -/
theorem test_ioIn_2 :
    after ({ machine (ref) 0x100 [(1, 0x0#8)] [(0x200, 0x1f#8), (0x201, 0xb6#8)] [] [] with sreg := 0xa5#8 })
      (fun t => (t.reg 1, t.sreg, t.pc))
      = some (0xa5#8, 0xa5#8, 0x101#22) := by decide
/-- `out $3F,r16` -/
theorem test_ioOut_1 :
    after ({ machine (ref) 0x100 [(16, 0xff#8)] [(0x200, 0xf#8), (0x201, 0xbf#8)] [] [] with sreg := 0x0#8 })
      (fun t => (t.sreg, t.pc))
      = some (0xff#8, 0x101#22) := by decide
/-- `out $3E,r16` -/
theorem test_ioOut_2 :
    after ({ machine (ref) 0x100 [(16, 0x4#8)] [(0x200, 0xe#8), (0x201, 0xbf#8)] [] [] with sp := 0xff#16, sreg := 0x0#8 })
      (fun t => (t.sp, t.sreg, t.pc))
      = some (0x4ff#16, 0x0#8, 0x101#22) := by decide
/-- `push r14` -/
theorem test_push_1 :
    after ({ machine (ref) 0x100 [(14, 0xe1#8)] [(0x200, 0xef#8), (0x201, 0x92#8)] [] [] with sp := 0x8ff#16, sreg := 0x0#8 })
      (fun t => (peek t 0x08FF, t.sp, t.sreg, t.pc))
      = some (some 0xe1#8, 0x8fe#16, 0x0#8, 0x101#22) := by decide
/-- `push r14` -/
theorem test_push_2 :
    after ({ machine (ref) 0x100 [(14, 0xe2#8)] [(0x200, 0xef#8), (0x201, 0x92#8)] [] [] with sp := 0x0#16, sreg := 0x0#8 })
      (fun t => (t.reg 0, t.sp, t.sreg, t.pc))
      = some (0xe2#8, 0xffff#16, 0x0#8, 0x101#22) := by decide
/-- `pop r14` -/
theorem test_pop_1 :
    after ({ machine (ref) 0x100 [(14, 0x0#8)] [(0x200, 0xef#8), (0x201, 0x90#8)] [(0x8ff, 0xe3#8)] [] with sp := 0x8fe#16, sreg := 0x0#8 })
      (fun t => (t.reg 14, t.sp, t.sreg, t.pc))
      = some (0xe3#8, 0x8ff#16, 0x0#8, 0x101#22) := by decide
/-- `pop r0` -/
theorem test_pop_2 :
    after ({ machine (ref) 0x100 [(0, 0x0#8)] [(0x200, 0xf#8), (0x201, 0x90#8)] [] [] with sp := 0x5e#16, sreg := 0x93#8 })
      (fun t => (t.reg 0, t.sp, t.sreg, t.pc))
      = some (0x93#8, 0x5f#16, 0x93#8, 0x101#22) := by decide
/-- `lpm` -/
theorem test_lpmR0_1 :
    after ({ machine (ref) 0x100 [(0, 0x0#8), (30, 0xfe#8), (31, 0x2#8)] [(0x200, 0xc8#8), (0x201, 0x95#8), (0x2fe, 0xcd#8), (0x2ff, 0xab#8)] [] [] with sreg := 0x0#8 })
      (fun t => (t.reg 0, t.pair 30, t.sreg, t.pc))
      = some (0xcd#8, 0x2fe#16, 0x0#8, 0x101#22) := by decide
/-- `lpm` -/
theorem test_lpmR0_2 :
    after ({ machine (ref) 0x100 [(0, 0x0#8), (30, 0xff#8), (31, 0x2#8)] [(0x200, 0xc8#8), (0x201, 0x95#8), (0x2fe, 0xcd#8), (0x2ff, 0xab#8)] [] [] with sreg := 0x0#8 })
      (fun t => (t.reg 0, t.pair 30, t.sreg, t.pc))
      = some (0xab#8, 0x2ff#16, 0x0#8, 0x101#22) := by decide
/-- `lpm r16,Z` -/
theorem test_lpmZ_1 :
    after ({ machine (ref) 0x100 [(16, 0x0#8), (30, 0xff#8), (31, 0x2#8)] [(0x200, 0x4#8), (0x201, 0x91#8), (0x2fe, 0x76#8), (0x2ff, 0x58#8)] [] [] with sreg := 0x0#8 })
      (fun t => (t.reg 16, t.pair 30, t.sreg, t.pc))
      = some (0x58#8, 0x2ff#16, 0x0#8, 0x101#22) := by decide
/-- `lpm r16,Z+` -/
theorem test_lpmZInc_1 :
    after ({ machine (ref) 0x100 [(16, 0x0#8), (30, 0xff#8), (31, 0x2#8)] [(0x200, 0x5#8), (0x201, 0x91#8), (0x2fe, 0xcd#8), (0x2ff, 0xab#8)] [] [] with sreg := 0x0#8 })
      (fun t => (t.reg 16, t.pair 30, t.sreg, t.pc))
      = some (0xab#8, 0x300#16, 0x0#8, 0x101#22) := by decide
/-- `lpm r16,Z+` -/
theorem test_lpmZInc_2 :
    after ({ machine ({ ref with ptrClass := .extended, ramEnd := 0x1FFFFF, hasRampZ := true, flashEnd := 0x1FFFF, pcBits := 17 }) 0x100 [(16, 0x0#8), (30, 0xff#8), (31, 0xff#8)] [(0x200, 0x5#8), (0x201, 0x91#8), (0xfffe, 0x34#8), (0xffff, 0x12#8)] [] [] with rampZ := 0x2#8, sreg := 0x0#8 })
      (fun t => (t.reg 16, t.pair 30, t.rampZ, t.sreg, t.pc))
      = some (0x12#8, 0x0#16, 0x2#8, 0x0#8, 0x101#22) := by decide
/-- `lpm r30,Z` -/
theorem test_lpmZ_2 :
    after ({ machine (ref) 0x100 [(30, 0x0#8), (31, 0x2#8)] [(0x200, 0xe4#8), (0x201, 0x91#8)] [] [] with sreg := 0x0#8 })
      (fun t => (t.reg 30, t.reg 31, t.sreg, t.pc))
      = some (0xe4#8, 0x2#8, 0x0#8, 0x101#22) := by decide
/-- `elpm` -/
theorem test_elpmR0_1 :
    after ({ machine ({ ref with ptrClass := .extended, ramEnd := 0x1FFFFF, hasRampZ := true, flashEnd := 0x1FFFF, pcBits := 17 }) 0x100 [(0, 0x0#8), (30, 0x1#8), (31, 0x0#8)] [(0x200, 0xd8#8), (0x201, 0x95#8), (0x10000, 0x38#8), (0x10001, 0x37#8)] [] [] with rampZ := 0x1#8, sreg := 0x0#8 })
      (fun t => (t.reg 0, t.pair 30, t.rampZ, t.sreg, t.pc))
      = some (0x37#8, 0x1#16, 0x1#8, 0x0#8, 0x101#22) := by decide
/-- `elpm r16,Z` -/
theorem test_elpmZ_1 :
    after ({ machine ({ ref with ptrClass := .extended, ramEnd := 0x1FFFFF, hasRampZ := true, flashEnd := 0x1FFFF, pcBits := 17 }) 0x100 [(16, 0x0#8), (30, 0x0#8), (31, 0x0#8)] [(0x200, 0x6#8), (0x201, 0x91#8), (0x10000, 0x38#8), (0x10001, 0x37#8)] [] [] with rampZ := 0x1#8, sreg := 0x0#8 })
      (fun t => (t.reg 16, t.pair 30, t.rampZ, t.sreg, t.pc))
      = some (0x38#8, 0x0#16, 0x1#8, 0x0#8, 0x101#22) := by decide
/-- `elpm r16,Z+` -/
theorem test_elpmZInc_1 :
    after ({ machine ({ ref with ptrClass := .extended, ramEnd := 0x1FFFFF, hasRampZ := true, flashEnd := 0x1FFFF, pcBits := 17 }) 0x100 [(16, 0x0#8), (30, 0xff#8), (31, 0xff#8)] [(0x200, 0x7#8), (0x201, 0x91#8), (0x1fffe, 0x0#8), (0x1ffff, 0x9a#8)] [] [] with rampZ := 0x1#8, sreg := 0x0#8 })
      (fun t => (t.reg 16, t.pair 30, t.rampZ, t.sreg, t.pc))
      = some (0x9a#8, 0x0#16, 0x2#8, 0x0#8, 0x101#22) := by decide
/-- `spm` -/
theorem test_spm_1 :
    (match exec (.spm) ({ machine (ref) 0x100 [(0, 0x34#8), (1, 0x12#8), (30, 0x0#8), (31, 0x1#8)] [(0x200, 0xe8#8), (0x201, 0x95#8)] [] [] with sreg := 0x0#8 }) with
      | .next t => some (t.pair 30, t.sreg, t.pc)
      | _ => none)
      = some (0x100#16, 0x0#8, 0x101#22) := by decide
/-- `spm Z+` -/
theorem test_spmZInc_1 :
    (match exec (.spmZInc) ({ machine (ref) 0x100 [(0, 0x34#8), (1, 0x12#8), (30, 0x0#8), (31, 0x1#8)] [(0x200, 0xf8#8), (0x201, 0x95#8)] [] [] with sreg := 0x0#8 }) with
      | .next t => some (t.pair 30, t.sreg, t.pc)
      | _ => none)
      = some (0x102#16, 0x0#8, 0x101#22) := by decide
/-- `spm Z+` -/
theorem test_spmZInc_2 :
    (match exec (.spmZInc) ({ machine ({ ref with ptrClass := .extended, ramEnd := 0x1FFFFF, hasRampZ := true, pcBits := 17, flashEnd := 0x1FFFF }) 0x100 [(0, 0x0#8), (1, 0x0#8), (30, 0xfe#8), (31, 0xff#8)] [(0x200, 0xf8#8), (0x201, 0x95#8)] [] [] with rampZ := 0x1#8, sreg := 0x0#8 }) with
      | .next t => some (t.pair 30, t.rampZ, t.sreg, t.pc)
      | _ => none)
      = some (0x0#16, 0x1#8, 0x0#8, 0x101#22) := by decide
/-- `lsl r18` -/
theorem test_lsl_1 :
    (match exec (.lsl 18) ({ machine (ref) 0x100 [(18, 0x85#8)] [(0x200, 0x22#8), (0x201, 0xf#8)] [] [] with sreg := 0x0#8 }) with
      | .next t => some (t.reg 18, t.sreg, t.pc)
      | _ => none)
      = some (0xa#8, 0x19#8, 0x101#22) := by decide
/-- `lsl r18` -/
theorem test_lsl_2 :
    (match exec (.lsl 18) ({ machine (ref) 0x100 [(18, 0x40#8)] [(0x200, 0x22#8), (0x201, 0xf#8)] [] [] with sreg := 0x0#8 }) with
      | .next t => some (t.reg 18, t.sreg, t.pc)
      | _ => none)
      = some (0x80#8, 0xc#8, 0x101#22) := by decide
/-- `lsr r19` -/
theorem test_lsr_1 :
    after ({ machine (ref) 0x100 [(19, 0x1#8)] [(0x200, 0x36#8), (0x201, 0x95#8)] [] [] with sreg := 0x0#8 })
      (fun t => (t.reg 19, t.sreg, t.pc))
      = some (0x0#8, 0x1b#8, 0x101#22) := by decide
/-- `lsr r19` -/
theorem test_lsr_2 :
    after ({ machine (ref) 0x100 [(19, 0x80#8)] [(0x200, 0x36#8), (0x201, 0x95#8)] [] [] with sreg := 0x4#8 })
      (fun t => (t.reg 19, t.sreg, t.pc))
      = some (0x40#8, 0x0#8, 0x101#22) := by decide
/-- `rol r19` -/
theorem test_rol_1 :
    (match exec (.rol 19) ({ machine (ref) 0x100 [(19, 0x80#8)] [(0x200, 0x33#8), (0x201, 0x1f#8)] [] [] with sreg := 0x1#8 }) with
      | .next t => some (t.reg 19, t.sreg, t.pc)
      | _ => none)
      = some (0x1#8, 0x19#8, 0x101#22) := by decide
/-- `rol r19` -/
theorem test_rol_2 :
    (match exec (.rol 19) ({ machine (ref) 0x100 [(19, 0x7f#8)] [(0x200, 0x33#8), (0x201, 0x1f#8)] [] [] with sreg := 0x0#8 }) with
      | .next t => some (t.reg 19, t.sreg, t.pc)
      | _ => none)
      = some (0xfe#8, 0x2c#8, 0x101#22) := by decide
/-- `ror r18` -/
theorem test_ror_1 :
    after ({ machine (ref) 0x100 [(18, 0x1#8)] [(0x200, 0x27#8), (0x201, 0x95#8)] [] [] with sreg := 0x0#8 })
      (fun t => (t.reg 18, t.sreg, t.pc))
      = some (0x0#8, 0x1b#8, 0x101#22) := by decide
/-- `ror r18` -/
theorem test_ror_2 :
    after ({ machine (ref) 0x100 [(18, 0x0#8)] [(0x200, 0x27#8), (0x201, 0x95#8)] [] [] with sreg := 0x1#8 })
      (fun t => (t.reg 18, t.sreg, t.pc))
      = some (0x80#8, 0xc#8, 0x101#22) := by decide
/-- `asr r16` -/
theorem test_asr_1 :
    after ({ machine (ref) 0x100 [(16, 0x10#8)] [(0x200, 0x5#8), (0x201, 0x95#8)] [] [] with sreg := 0x0#8 })
      (fun t => (t.reg 16, t.sreg, t.pc))
      = some (0x8#8, 0x0#8, 0x101#22) := by decide
/-- `asr r17` -/
theorem test_asr_2 :
    after ({ machine (ref) 0x100 [(17, 0xfc#8)] [(0x200, 0x15#8), (0x201, 0x95#8)] [] [] with sreg := 0x0#8 })
      (fun t => (t.reg 17, t.sreg, t.pc))
      = some (0xfe#8, 0xc#8, 0x101#22) := by decide
/-- `swap r1` -/
theorem test_swap_1 :
    after ({ machine (ref) 0x100 [(1, 0xa5#8)] [(0x200, 0x12#8), (0x201, 0x94#8)] [] [] with sreg := 0xff#8 })
      (fun t => (t.reg 1, t.sreg, t.pc))
      = some (0x5a#8, 0xff#8, 0x101#22) := by decide
/-- `bset 6` -/
theorem test_bset_1 :
    after ({ machine (ref) 0x100 [] [(0x200, 0x68#8), (0x201, 0x94#8)] [] [] with sreg := 0x0#8 })
      (fun t => (t.sreg, t.pc))
      = some (0x40#8, 0x101#22) := by decide
/-- `bset 7` -/
theorem test_bset_2 :
    after ({ machine (ref) 0x100 [] [(0x200, 0x78#8), (0x201, 0x94#8)] [] [] with sreg := 0x0#8 })
      (fun t => (t.sreg, t.pc))
      = some (0x80#8, 0x101#22) := by decide
/-- `bclr 0` -/
theorem test_bclr_1 :
    after ({ machine (ref) 0x100 [] [(0x200, 0x88#8), (0x201, 0x94#8)] [] [] with sreg := 0xff#8 })
      (fun t => (t.sreg, t.pc))
      = some (0xfe#8, 0x101#22) := by decide
/-- `bclr 7` -/
theorem test_bclr_2 :
    after ({ machine (ref) 0x100 [] [(0x200, 0xf8#8), (0x201, 0x94#8)] [] [] with sreg := 0xff#8 })
      (fun t => (t.sreg, t.pc))
      = some (0x7f#8, 0x101#22) := by decide
/-- `sec` -/
theorem test_sec_1 :
    (match exec (.sec) ({ machine (ref) 0x100 [] [(0x200, 0x8#8), (0x201, 0x94#8)] [] [] with sreg := 0x0#8 }) with
      | .next t => some (t.sreg, t.pc)
      | _ => none)
      = some (0x1#8, 0x101#22) := by decide
/-- `clc` -/
theorem test_clc_1 :
    (match exec (.clc) ({ machine (ref) 0x100 [] [(0x200, 0x88#8), (0x201, 0x94#8)] [] [] with sreg := 0xff#8 }) with
      | .next t => some (t.sreg, t.pc)
      | _ => none)
      = some (0xfe#8, 0x101#22) := by decide
/-- `sen` -/
theorem test_sen_1 :
    (match exec (.sen) ({ machine (ref) 0x100 [] [(0x200, 0x28#8), (0x201, 0x94#8)] [] [] with sreg := 0x0#8 }) with
      | .next t => some (t.sreg, t.pc)
      | _ => none)
      = some (0x4#8, 0x101#22) := by decide
/-- `cln` -/
theorem test_cln_1 :
    (match exec (.cln) ({ machine (ref) 0x100 [] [(0x200, 0xa8#8), (0x201, 0x94#8)] [] [] with sreg := 0xff#8 }) with
      | .next t => some (t.sreg, t.pc)
      | _ => none)
      = some (0xfb#8, 0x101#22) := by decide
/-- `sez` -/
theorem test_sez_1 :
    (match exec (.sez) ({ machine (ref) 0x100 [] [(0x200, 0x18#8), (0x201, 0x94#8)] [] [] with sreg := 0x0#8 }) with
      | .next t => some (t.sreg, t.pc)
      | _ => none)
      = some (0x2#8, 0x101#22) := by decide
/-- `clz` -/
theorem test_clz_1 :
    (match exec (.clz) ({ machine (ref) 0x100 [] [(0x200, 0x98#8), (0x201, 0x94#8)] [] [] with sreg := 0xff#8 }) with
      | .next t => some (t.sreg, t.pc)
      | _ => none)
      = some (0xfd#8, 0x101#22) := by decide
/-- `sei` -/
theorem test_sei_1 :
    (match exec (.sei) ({ machine (ref) 0x100 [] [(0x200, 0x78#8), (0x201, 0x94#8)] [] [] with sreg := 0x0#8 }) with
      | .next t => some (t.sreg, t.pc)
      | _ => none)
      = some (0x80#8, 0x101#22) := by decide
/-- `cli` -/
theorem test_cli_1 :
    (match exec (.cli) ({ machine (ref) 0x100 [] [(0x200, 0xf8#8), (0x201, 0x94#8)] [] [] with sreg := 0xff#8 }) with
      | .next t => some (t.sreg, t.pc)
      | _ => none)
      = some (0x7f#8, 0x101#22) := by decide
/-- `ses` -/
theorem test_ses_1 :
    (match exec (.ses) ({ machine (ref) 0x100 [] [(0x200, 0x48#8), (0x201, 0x94#8)] [] [] with sreg := 0x0#8 }) with
      | .next t => some (t.sreg, t.pc)
      | _ => none)
      = some (0x10#8, 0x101#22) := by decide
/-- `cls` -/
theorem test_cls_1 :
    (match exec (.cls) ({ machine (ref) 0x100 [] [(0x200, 0xc8#8), (0x201, 0x94#8)] [] [] with sreg := 0xff#8 }) with
      | .next t => some (t.sreg, t.pc)
      | _ => none)
      = some (0xef#8, 0x101#22) := by decide
/-- `sev` -/
theorem test_sev_1 :
    (match exec (.sev) ({ machine (ref) 0x100 [] [(0x200, 0x38#8), (0x201, 0x94#8)] [] [] with sreg := 0x0#8 }) with
      | .next t => some (t.sreg, t.pc)
      | _ => none)
      = some (0x8#8, 0x101#22) := by decide
/-- `clv` -/
theorem test_clv_1 :
    (match exec (.clv) ({ machine (ref) 0x100 [] [(0x200, 0xb8#8), (0x201, 0x94#8)] [] [] with sreg := 0xff#8 }) with
      | .next t => some (t.sreg, t.pc)
      | _ => none)
      = some (0xf7#8, 0x101#22) := by decide
/-- `set` -/
theorem test_setT_1 :
    (match exec (.setT) ({ machine (ref) 0x100 [] [(0x200, 0x68#8), (0x201, 0x94#8)] [] [] with sreg := 0x0#8 }) with
      | .next t => some (t.sreg, t.pc)
      | _ => none)
      = some (0x40#8, 0x101#22) := by decide
/-- `clt` -/
theorem test_clt_1 :
    (match exec (.clt) ({ machine (ref) 0x100 [] [(0x200, 0xe8#8), (0x201, 0x94#8)] [] [] with sreg := 0xff#8 }) with
      | .next t => some (t.sreg, t.pc)
      | _ => none)
      = some (0xbf#8, 0x101#22) := by decide
/-- `seh` -/
theorem test_seh_1 :
    (match exec (.seh) ({ machine (ref) 0x100 [] [(0x200, 0x58#8), (0x201, 0x94#8)] [] [] with sreg := 0x0#8 }) with
      | .next t => some (t.sreg, t.pc)
      | _ => none)
      = some (0x20#8, 0x101#22) := by decide
/-- `clh` -/
theorem test_clh_1 :
    (match exec (.clh) ({ machine (ref) 0x100 [] [(0x200, 0xd8#8), (0x201, 0x94#8)] [] [] with sreg := 0xff#8 }) with
      | .next t => some (t.sreg, t.pc)
      | _ => none)
      = some (0xdf#8, 0x101#22) := by decide
/-- `sbi $12,7` -/
theorem test_sbi_1 :
    after ({ machine (ref) 0x100 [] [(0x200, 0x97#8), (0x201, 0x9a#8)] [] [(0x12, 0x1#8)] with sreg := 0x0#8 })
      (fun t => (t.ioDev.read 0x12, t.sreg, t.pc))
      = some (some 0x81#8, 0x0#8, 0x101#22) := by decide
/-- `cbi $12,7` -/
theorem test_cbi_1 :
    after ({ machine (ref) 0x100 [] [(0x200, 0x97#8), (0x201, 0x98#8)] [] [(0x12, 0xff#8)] with sreg := 0x0#8 })
      (fun t => (t.ioDev.read 0x12, t.sreg, t.pc))
      = some (some 0x7f#8, 0x0#8, 0x101#22) := by decide
/-- `sbi $1F,0` -/
theorem test_sbi_2 :
    after ({ machine ({ ref with sregIo := 0x1F }) 0x100 [] [(0x200, 0xf8#8), (0x201, 0x9a#8)] [] [] with sreg := 0x0#8 })
      (fun t => (t.sreg, t.pc))
      = some (0x1#8, 0x101#22) := by decide
/-- `bst r1,2` -/
theorem test_bst_1 :
    after ({ machine (ref) 0x100 [(1, 0x4#8)] [(0x200, 0x12#8), (0x201, 0xfa#8)] [] [] with sreg := 0x0#8 })
      (fun t => (t.sreg, t.pc))
      = some (0x40#8, 0x101#22) := by decide
/-- `bst r1,2` -/
theorem test_bst_2 :
    after ({ machine (ref) 0x100 [(1, 0xfb#8)] [(0x200, 0x12#8), (0x201, 0xfa#8)] [] [] with sreg := 0xff#8 })
      (fun t => (t.sreg, t.pc))
      = some (0xbf#8, 0x101#22) := by decide
/-- `bld r0,4` -/
theorem test_bld_1 :
    after ({ machine (ref) 0x100 [(0, 0x0#8)] [(0x200, 0x4#8), (0x201, 0xf8#8)] [] [] with sreg := 0x40#8 })
      (fun t => (t.reg 0, t.sreg, t.pc))
      = some (0x10#8, 0x40#8, 0x101#22) := by decide
/-- `bld r0,4` -/
theorem test_bld_2 :
    after ({ machine (ref) 0x100 [(0, 0xff#8)] [(0x200, 0x4#8), (0x201, 0xf8#8)] [] [] with sreg := 0xbf#8 })
      (fun t => (t.reg 0, t.sreg, t.pc))
      = some (0xef#8, 0xbf#8, 0x101#22) := by decide
/-- `nop` -/
theorem test_nop_1 :
    after ({ machine (ref) 0x100 [] [(0x200, 0x0#8), (0x201, 0x0#8)] [] [] with sreg := 0xa5#8 })
      (fun t => (t.sreg, t.pc))
      = some (0xa5#8, 0x101#22) := by decide
/-- `wdr` -/
theorem test_wdr_1 :
    after ({ machine (ref) 0x100 [] [(0x200, 0xa8#8), (0x201, 0x95#8)] [] [] with sreg := 0xa5#8 })
      (fun t => (t.sreg, t.pc))
      = some (0xa5#8, 0x101#22) := by decide
/-- `sleep` -/
theorem test_sleep_1 :
    after ({ machine (ref) 0x100 [] [(0x200, 0x88#8), (0x201, 0x95#8)] [] [] with sreg := 0x80#8 })
      (fun t => (t.sreg, t.pc))
      = some (0x80#8, 0x101#22) := by decide
/-- `break` -/
theorem test_brk_1 :
    after ({ machine (ref) 0x100 [] [(0x200, 0x98#8), (0x201, 0x95#8)] [] [] with sreg := 0x0#8 })
      (fun t => (t.sreg, t.pc))
      = some (0x0#8, 0x101#22) := by decide

/-! ### Worked examples of the rules that V43 has no row for -/

/-- R272 -/
theorem test_ldZ_1 :
    after (machine ref 0x100 [(30, 0x60#8)] [(0x200, 0x00#8), (0x201, 0x80#8)] [(0x60, 0x11#8)] [])
      (fun t => (t.reg 0, t.pair 30, t.pc)) = some (0x11#8, 0x60#16, 0x101#22) := by decide
/-- R274 -/
theorem test_ldZDec_1 :
    after (machine ref 0x100 [(30, 0x63#8)] [(0x200, 0x32#8), (0x201, 0x90#8)] [(0x62, 0x33#8)] [])
      (fun t => (t.reg 3, t.pair 30, t.pc)) = some (0x33#8, 0x62#16, 0x101#22) := by decide
/-- R282: a store onto another pointer's register is defined. -/
theorem test_stYInc_1 :
    after (machine ref 0x100 [(5, 0x42#8), (28, 0x1B#8)] [(0x200, 0x59#8), (0x201, 0x92#8)] [] [])
      (fun t => (t.reg 27, t.pair 28, t.pc)) = some (0x42#8, 0x1C#16, 0x101#22) := by decide
/-- R283 -/
theorem test_stYDec_1 :
    after (machine ref 0x100 [(3, 0xCC#8), (28, 0x63#8)] [(0x200, 0x3A#8), (0x201, 0x92#8)] [] [])
      (fun t => (peek t 0x62, t.pair 28, t.pc)) = some (some 0xCC#8, 0x62#16, 0x101#22) := by decide
/-- R285 -/
theorem test_stZ_1 :
    after (machine ref 0x100 [(5, 0x42#8), (30, 0x05#8)] [(0x200, 0x50#8), (0x201, 0x82#8)] [] [])
      (fun t => (t.reg 5, t.pair 30, t.pc)) = some (0x42#8, 0x05#16, 0x101#22) := by decide
/-- R287 -/
theorem test_stZDec_1 :
    after (machine ref 0x100 [(3, 0xCC#8), (30, 0x63#8)] [(0x200, 0x32#8), (0x201, 0x92#8)] [] [])
      (fun t => (peek t 0x62, t.pair 30, t.pc)) = some (some 0xCC#8, 0x62#16, 0x101#22) := by decide
/-- V41: what one DES leaves alone. -/
theorem test_des_1 :
    after (machine ref 0x100 [(0, 0x12#8), (16, 0x34#8)] [(0x200, 0x0B#8), (0x201, 0x94#8)] [] [])
      (fun t => (t.reg 16, t.sreg, t.sp, t.pc)) = some (0x34#8, 0#8, 0x08FF#16, 0x101#22) := by decide
set_option maxRecDepth 100000 in
/-- V41: the known-answer pair of the standard, both ways. -/
theorem test_des_known_answer :
    desBlock false 0x133457799BBCDFF1#64 0x0123456789ABCDEF#64 = 0x85E813540F0AB405#64
      ∧ desBlock true 0x133457799BBCDFF1#64 0x85E813540F0AB405#64 = 0x0123456789ABCDEF#64 := by decide

/-! ### Model outcomes (V30) -/

theorem test_reserved_word_faults :
    faultAfter (machine ref 0x100 [] [(0x200, 0x01#8), (0x201, 0x00#8)] [] []) = some (.reservedOpcode 0x0001#16) := by
  decide
theorem test_fetch_above_flashend :
    faultAfter (machine ref 0x4000 [] [] [] []) = some (.outOfRange .program 0x4000) := by decide
theorem test_second_word_above_flashend :
    faultAfter (machine ref 0x3FFF [] [(0x7FFE, 0x0C#8), (0x7FFF, 0x94#8)] [] [])
      = some (.outOfRange .program 0x4000) := by decide
theorem test_load_above_ramend :
    faultAfter (machine ref 0x100 [] [(0x200, 0x20#8), (0x201, 0x90#8), (0x202, 0x00#8), (0x203, 0xFF#8)] [] [])
      = some (.outOfRange .data 0xFF00) := by decide
theorem test_push_above_ramend :
    faultAfter { machine ref 0x100 [] [(0x200, 0x0F#8), (0x201, 0x92#8)] [] [] with sp := 0x0900#16 }
      = some (.outOfRange .data 0x0900) := by decide
theorem test_store_onto_pointer :
    faultAfter (machine ref 0x100 [(26, 0x1A#8), (5, 0x77#8)] [(0x200, 0x5D#8), (0x201, 0x92#8)] [] [])
      = some (.undefinedUse (.storeOntoPointer .x 26)) := by decide
theorem test_lpm_above_flashend :
    faultAfter (machine ref 0x100 [(31, 0x80#8)] [(0x200, 0xC8#8), (0x201, 0x95#8)] [] [])
      = some (.outOfRange .program 0x8000) := by decide
theorem test_spm_odd :
    refusalAfter (machine ref 0x100 [(30, 0x01#8), (31, 0x01#8)] [(0x200, 0xE8#8), (0x201, 0x95#8)] [] [])
      = some (.deviceDefined (.spmOddAddress 0x101)) := by decide
theorem test_unwritten_sram :
    faultAfter (machine ref 0x100 [(26, 0x60#8)] [(0x200, 0x0C#8), (0x201, 0x90#8)] [] [])
      = some (.unwritten 0x60) := by decide
theorem test_store_to_mapped_flash :
    refusalAfter
      (machine { ref with flashDataBase := some 0x400 } 0x100 [(27, 0x04#8)] [(0x200, 0x0C#8), (0x201, 0x92#8)] [] [])
      = some (.deviceDefined (.storeToFlash 0x400)) := by decide
theorem test_load_from_mapped_flash :
    after (machine { ref with flashDataBase := some 0x400 } 0x100 [(27, 0x06#8)] [(0x200, 0x5C#8), (0x201, 0x90#8)] [] [])
      (fun t => t.reg 5) = some 0x5C#8 := by decide
theorem test_break_stops :
    after (machine { ref with ocdEnabled := true } 0x100 [] [(0x200, 0x98#8), (0x201, 0x95#8)] [] [])
      (fun t => (t.run, t.pc)) = some (.stopped, 0x101#22) := by decide
theorem test_cpse_skips_reserved_word :
    after (machine ref 0x100 [] [(0x200, 0x01#8), (0x201, 0x10#8), (0x202, 0x01#8), (0x203, 0x00#8)] [] [])
      (fun t => t.pc) = some 0x102#22 := by decide

/-! ### Interrupts (V60, traces T1 to T9) -/

/-- Two NOPs' worth of Program memory at word 0x100, words given. -/
def program (w w2 : Word16) : Memory :=
  [(0x200, w.setWidth 8), (0x201, (w >>> 8).setWidth 8), (0x202, w2.setWidth 8), (0x203, (w2 >>> 8).setWidth 8)]

/-- T1 and T7: entry with a 16-bit pc, the first of two requests in VECTORS order. -/
theorem test_interrupt_entry :
    after { machine ref 0x123 [] [] [] [] with sreg := 0x82#8, pending := [2, 1] }
      (fun t => (peek t 0x8FF, peek t 0x8FE, t.sp, t.sreg, t.pc))
      = some (some 0x23#8, some 0x01#8, 0x08FD#16, 0x02#8, 2#22) := by decide
/-- T2: entry with a 22-bit pc. -/
theorem test_interrupt_entry_22 :
    after { machine { ref with pcBits := 22, flashEnd := 0x3FFFFF } 0x12345 [] [] [] [] with
        sreg := 0x80#8, pending := [1] }
      (fun t => (peek t 0x8FF, peek t 0x8FE, peek t 0x8FD, t.sp, t.pc))
      = some (some 0x45#8, some 0x23#8, some 0x01#8, 0x08FC#16, 2#22) := by decide
/-- T3: with I = 0 the request waits. -/
theorem test_interrupt_waits :
    after { machine ref 0x100 [] (program 0#16 0#16) [] [] with pending := [1] }
      (fun t => (t.pc, t.sp)) = some (0x101#22, 0x08FF#16) := by decide
/-- T4: the instruction after SEI runs first. -/
theorem test_sei_holds_off :
    after { machine ref 0x100 [] (program 0x9478#16 0x9503#16) [] [] with pending := [1] }
      (fun t => (t.pc, t.sreg, t.inhibit)) = some (0x101#22, 0x80#8, true)
    ∧ after { machine ref 0x101 [] (program 0x9478#16 0x9503#16) [] [] with
        sreg := 0x80#8, inhibit := true, pending := [1] }
      (fun t => (t.pc, t.reg 16, t.inhibit)) = some (0x102#22, 1#8, false) := by decide
/-- T5: a pending request wakes the core out of sleep. -/
theorem test_wakes_from_sleep :
    after { machine ref 0x102 [] [] [] [] with sreg := 0x80#8, run := .sleeping, pending := [1] }
      (fun t => (t.run, t.pc, t.sp, t.sreg)) = some (.running, 2#22, 0x08FD#16, 0x00#8) := by decide
/-- T9: asleep with I = 0 nothing happens. -/
theorem test_sleeps_on :
    after { machine ref 0x101 [] [] [] [] with run := .sleeping, pending := [1] }
      (fun t => (t.run, t.pc, t.sp)) = some (.sleeping, 0x101#22, 0x08FF#16) := by decide
theorem test_sleep_enabled :
    after { machine ref 0x100 [] (program 0x9588#16 0#16) [] [] with sleepEnabled := true }
      (fun t => (t.run, t.pc)) = some (.sleeping, 0x101#22) := by decide
/-- R440: a reset event ends sleep and starts at the reset address. -/
theorem test_reset_event :
    after { machine ref 0x101 [(4, 9#8)] [] [] [] with run := .sleeping, inputs := [[.reset], []] }
      (fun t => (t.run, t.pc, t.reg 4, t.inputs)) = some (.running, 0#22, 0#8, [[]]) := by decide
/-- R423 (b): a request that arrives before a step is seen by it. -/
theorem test_request_arrives :
    after { machine ref 0x100 [] [] [] [] with sreg := 0x80#8, inputs := [[.request 2]] }
      (fun t => (t.pc, t.pending)) = some (4#22, []) := by decide
/-- R408: a write of SREG that sets I holds interrupts off where the parameter says so. -/
theorem test_sreg_write_holdoff :
    after (machine { ref with sregWriteHoldoff := true } 0x100 [(16, 0x80#8)] (program 0xBF0F#16 0#16) [] [])
      (fun t => (t.sreg, t.inhibit)) = some (0x80#8, true)
    ∧ after (machine ref 0x100 [(16, 0x80#8)] (program 0xBF0F#16 0#16) [] [])
      (fun t => (t.sreg, t.inhibit)) = some (0x80#8, false) := by decide
/-- R208, its worked example. -/
theorem test_eicall_pushes_three :
    after { machine { ref with pcBits := 22, flashEnd := 0x3FFFFF, hasEind := true } 0x20304 [(31, 0x10#8)]
        [(0x40608, 0x19#8), (0x40609, 0x95#8)] [] [] with sp := 0x08FF#16, eind := 0x05#8 }
      (fun t => (peek t 0x8FF, peek t 0x8FE, peek t 0x8FD, t.pc))
      = some (some 0x05#8, some 0x03#8, some 0x02#8, 0x51000#22) := by decide

/-! ### The hypotheses of the statements

For every statement of Certificates/Slice0/Obligations.lean with hypotheses, a concrete state and operands that meet them
together, for each clause, at the ends of its range. -/

/-- The answer is a next state. -/
def goesOn {α : Type} (r : Res α) : Bool :=
  match r with
  | .next _ => true
  | .fault _ => false
  | .refused _ => false

theorem next_of_goesOn {α : Type} {r : Res α} (h : goesOn r = true) : ∃ a, r = .next a := by
  cases r with
  | next a => exact ⟨a, rfl⟩
  | fault e => cases h
  | refused e => cases h

/-- What `f` reads of an answer, if it is a next state. -/
def answer {α β : Type} (r : Res α) (f : α → β) : Option β :=
  match r with
  | .next a => some (f a)
  | .fault _ => none
  | .refused _ => none

/-- The reference machine at word 0x100, nothing loaded. -/
def plain : State := machine ref 0x100 [] [] [] []

/-- The reference device with a 22-bit pc, every RAMP register and EIND. -/
def wide : Config :=
  { ref with
    pcBits := 22
    flashEnd := 0x3FFFFF
    ramEnd := 0xFFFFFF
    ptrClass := .extended
    hasRampX := true
    hasRampY := true
    hasRampZ := true
    hasRampD := true
    hasEind := true }

/-- The operand ranges in the encoding clauses of Subtractions, Compares, WordImmediates, LogicOperations, Moves,
Multiplies, PlainLoads and PlainStores. -/
theorem witness_operand_ranges :
    (16 ≤ (16 : Reg).val ∧ 16 ≤ (31 : Reg).val) ∧ (24 ≤ (24 : Reg).val ∧ (24 : Reg).val % 2 = 0)
      ∧ (24 ≤ (30 : Reg).val ∧ (30 : Reg).val % 2 = 0) ∧ ((0 : Reg).val % 2 = 0 ∧ (30 : Reg).val % 2 = 0)
      ∧ (16 ≤ (16 : Reg).val ∧ (16 : Reg).val ≤ 23 ∧ 16 ≤ (23 : Reg).val ∧ (23 : Reg).val ≤ 23) := by decide
theorem witness_ArithmeticLaws :
    (∃ t, exec (.add 1 2) plain = .next t) ∧ (∃ t, exec (.adc 1 2) plain = .next t)
      ∧ (∃ t, exec (.sub 1 2) plain = .next t) ∧ (∃ t, exec (.sbci 16 0xFF#8) plain = .next t)
      ∧ (∃ t, exec (.adiw 24 63) plain = .next t) ∧ (∃ t, exec (.com 0) plain = .next t)
      ∧ ((2 : Reg) + 1 ≠ 0 ∧ ∃ t, execAll [.add 0 2, .adc (0 + 1) (2 + 1)] plain = .next t)
      ∧ ((2 : Reg) + 1 ≠ 0 ∧ ∃ t, execAll [.sub 0 2, .sbc (0 + 1) (2 + 1)] plain = .next t)
      ∧ (∃ t, exec (.cp 1 2) plain = .next t) ∧ (∃ t, execAll [.com 3, .inc 3] plain = .next t)
      ∧ ∃ t, exec (.neg 3) plain = .next t := by
  refine ⟨next_of_goesOn ?_, next_of_goesOn ?_, next_of_goesOn ?_, next_of_goesOn ?_, next_of_goesOn ?_,
    next_of_goesOn ?_, ⟨by decide, next_of_goesOn ?_⟩, ⟨by decide, next_of_goesOn ?_⟩, next_of_goesOn ?_,
    next_of_goesOn ?_, next_of_goesOn ?_⟩ <;> decide
theorem witness_CompareThenBranch : ∃ t, exec (.cp 1 2) plain = .next t := next_of_goesOn (by decide)
/-- Two bytes at the bottom of SRAM and three at its top. -/
theorem witness_Calls_stackRoom :
    State.stackRoom { plain with sp := 0x61#16 } plain.cfg.pcBytes
      ∧ State.stackRoom (machine wide 0x100 [] [] [] []) wide.pcBytes := by
  unfold State.stackRoom; decide
theorem witness_Calls_push :
    (∃ t, pushPc plain 0x101 = .next t) ∧ ∃ t, pushPc { plain with sp := 0x20#16 } 0x102 = .next t :=
  ⟨next_of_goesOn (by decide), next_of_goesOn (by decide)⟩
/-- A return address at the top of SRAM, two bytes and three. -/
theorem witness_Returns :
    State.stackHolds { machine ref 0x100 [] [] [(0x8FE, 0x01#8), (0x8FF, 0x25#8)] [] with sp := 0x8FD#16 } ref.pcBytes
        (fun i => if i = 0 then 0x01#8 else 0x25#8)
      ∧ State.stackHolds
        { machine wide 0x100 [] [] [(0x8FD, 0x01#8), (0x8FE, 0x23#8), (0x8FF, 0x45#8)] [] with sp := 0x8FC#16 }
        wide.pcBytes (fun i => if i = 0 then 0x01#8 else if i = 1 then 0x23#8 else 0x45#8) := by
  unfold State.stackHolds; decide
/-- A return address popped from the Register File. -/
theorem witness_Returns_pop : ∃ p, popPc { plain with sp := 0x03#16 } = .next p := next_of_goesOn (by decide)
theorem witness_CallThenReturn :
    plain.cfg.wf = true ∧ plain.stackRoom plain.cfg.pcBytes ∧ (∃ t, exec (.rcall 0x7FF#12) plain = .next t)
      ∧ (∃ t, exec .icall plain = .next t) ∧ (∃ t, exec .eicall plain = .next t)
      ∧ ∃ t, exec (.call 0x3FFF#22) plain = .next t := by
  refine ⟨by decide, by unfold State.stackRoom; decide, next_of_goesOn ?_, next_of_goesOn ?_, next_of_goesOn ?_,
    next_of_goesOn ?_⟩ <;> decide
/-- Both ways of a skip, over one word and over two. -/
theorem witness_RegisterSkips :
    wordAt (machine ref 0x100 [] [(0x202, 0x00#8), (0x203, 0x00#8)] [] []) 0x101 = some 0x0000#16
      ∧ wordAt (machine ref 0x100 [] [(0x202, 0x0E#8), (0x203, 0x94#8)] [] []) 0x101 = some 0x940E#16
      ∧ isTwoWord 0x940E#16 = true ∧ isTwoWord 0x0000#16 = false ∧ wordAt plain 0x101 = none := by decide
/-- A location whose byte the state holds, and one whose byte it does not. -/
theorem witness_IoSkips :
    peekIo (machine ref 0x100 [] [] [] [(31, 0x80#8)]) (lowIo 31) = some 0x80#8
      ∧ peekIo plain (lowIo 0) = none := by decide

/-- The device of the data-space witnesses: every range of R64 is there, the Program memory window among them. -/
def mapped : Config := { resetDevice with flashDataBase := some 0x800000 }

/-- A device with storage at the first Extended I/O location and at the first I/O location. -/
def stored (c : Config) : Config := { c with extStorage := [(c.extIoFirst, c.extIoFirst)], ioStorage := [(0, 0)] }
/-- Both ends of every range of the data space, in the order the ranges are tested. -/
theorem witness_DataSpaceDispatch :
    (mapped.regfileInData = true ∧ 0 ≤ 31 ∧ (31 : Reg).val ≤ 31)
      ∧ (¬(mapped.regfileInData = true ∧ 0x20 ≤ 31) ∧ 0x20 = mapped.ioBase + (0 : Fin 64).val
        ∧ 0x5F = mapped.ioBase + (63 : Fin 64).val)
      ∧ (¬0x60 ≤ 31 ∧ ¬(mapped.ioBase ≤ 0x60 ∧ 0x60 ≤ mapped.ioBase + 63)
        ∧ (mapped.extIoFirst ≤ 0x60 ∧ 0x60 ≤ mapped.extIoLast) ∧ (mapped.extIoFirst ≤ 0xFF ∧ 0xFF ≤ mapped.extIoLast))
      ∧ (inSpans (stored mapped).extStorage 0x60 = true ∧ inSpans (stored mapped).extStorage 0xFF = false
        ∧ Memory.read [(0x60, 1#8)] 0x60 = some 1#8 ∧ Memory.read [] 0x60 = none)
      ∧ (dataPlace mapped 0x800000 = .flash 0 ∧ dataPlace mapped (0x800000 + 0x7FFFFF) = .flash 0x7FFFFF)
      ∧ (dataPlace mapped 0x100 = .sram ∧ dataPlace mapped 0x7FFFFF = .sram ∧ dataPlace resetDevice 0xFFFFFF = .sram)
      ∧ (dataPlace resetDevice 0x1000000 = .nowhere ∧ dataPlace mapped 0x1000000 = .nowhere) := by decide
/-- Bytes written and not written in SRAM. -/
theorem witness_DataSpaceDispatch_sram :
    (machine ref 0x100 [] [] [(0x60, 0x11#8)] []).sram.read 0x60 = some 0x11#8 ∧ plain.sram.read 0x8FF = none := by
  decide
/-- Each core register's I/O address on the reset device, and two addresses of devices. -/
theorem witness_IoCoreRegisters :
    resetDevice.wf = true ∧ (0x3F : Fin 64).val = resetDevice.sregIo ∧ (0x3D : Fin 64).val = resetDevice.splIo
      ∧ (resetDevice.spWidth = .sixteen ∧ (0x3E : Fin 64).val = resetDevice.sphIo)
      ∧ (resetDevice.hasRampX = true ∧ (0x39 : Fin 64).val = resetDevice.rampXIo)
      ∧ (resetDevice.hasRampY = true ∧ (0x3A : Fin 64).val = resetDevice.rampYIo)
      ∧ (resetDevice.hasRampZ = true ∧ (0x3B : Fin 64).val = resetDevice.rampZIo)
      ∧ (resetDevice.hasRampD = true ∧ (0x38 : Fin 64).val = resetDevice.rampDIo)
      ∧ (resetDevice.hasEind = true ∧ (0x3C : Fin 64).val = resetDevice.eindIo)
      ∧ (0 : Fin 64).val ∉ resetDevice.coreIoAddresses ∧ (0x37 : Fin 64).val ∉ resetDevice.coreIoAddresses
      ∧ (stored resetDevice).wf = true ∧ (0 : Fin 64).val ∉ (stored resetDevice).coreIoAddresses
      ∧ inSpans (stored resetDevice).ioStorage (0 : Fin 64).val = true
      ∧ inSpans (stored resetDevice).ioStorage (0x37 : Fin 64).val = false := by decide
/-- The three pointer classes, an extended one with and without the RAMP register. -/
theorem witness_PointerTable :
    ({ ref with ptrClass := .small, ramEnd := 0xFF } : Config).wf = true ∧ ref.ptrClass = .normal
      ∧ (({ wide with hasRampX := false } : Config).ptrClass = .extended
        ∧ hasRampOf { wide with hasRampX := false } .x = false)
      ∧ (wide.ptrClass = .extended ∧ hasRampOf wide .x = true) := by decide
/-- The registers on both sides of each pointer. -/
theorem witness_PointerLoads :
    Ptr.owns .x 25 = false ∧ Ptr.owns .x 28 = false ∧ Ptr.owns .y 27 = false ∧ Ptr.owns .y 30 = false
      ∧ Ptr.owns .z 29 = false ∧ Ptr.owns .z 0 = false := by decide
/-- A pointer that points at its own registers, and one that points just beside them, for both modes. -/
theorem witness_PointerStores :
    Ptr.owns .x 5 = false ∧ ref.regfileInData = true
      ∧ (ptrGet (machine ref 0x100 [(26, 26#8)] [] [] []) .x = (Ptr.lo .x).val
        ∧ ptrGet (machine ref 0x100 [(26, 27#8)] [] [] []) .x = (Ptr.lo .x).val + 1)
      ∧ (ptrGet (machine ref 0x100 [(26, 25#8)] [] [] []) .x = 25 ∧ ptrGet (machine ref 0x100 [(26, 28#8)] [] [] []) .x = 28)
      ∧ (ptrDown (machine ref 0x100 [(26, 27#8)] [] [] []) .x = 26 ∧ ptrDown (machine ref 0x100 [(26, 28#8)] [] [] []) .x = 27)
      ∧ (ptrDown (machine ref 0x100 [(26, 26#8)] [] [] []) .x = 25 ∧ ptrDown plain .x = 0xFFFF) := by decide
theorem witness_StoreFrame :
    (∃ t, memWrite plain 0x60 0xAA#8 = .next t) ∧ (∃ t, memWrite plain 0x1F 0xAA#8 = .next t)
      ∧ (∃ t, memWrite plain 0x5F 0xAA#8 = .next t) ∧ dataPlace ref 0x60 = .sram
      ∧ (∃ t, exec (.sts 0x8FF#16 1) plain = .next t) ∧ (∃ t, exec (.sts16 0x10#7 16) plain = .next t)
      ∧ (∃ t, exec (.stX 1) plain = .next t) ∧ (∃ t, exec (.stY 1) plain = .next t)
      ∧ (∃ t, exec (.stZ 1) plain = .next t) ∧ (∃ t, exec (.stdY 63 1) plain = .next t)
      ∧ (∃ t, exec (.stdZ 63 1) plain = .next t) ∧ (∃ t, exec (.push 1) plain = .next t)
      ∧ (0x60 ≠ 0x8FF ∧ ∀ j, dataPlace ref 0x60 = .io j → ioTarget ref j ≠ .spl ∧ ioTarget ref j ≠ .sph) := by
  refine ⟨next_of_goesOn ?_, next_of_goesOn ?_, next_of_goesOn ?_, ?_, next_of_goesOn ?_, next_of_goesOn ?_,
    next_of_goesOn ?_, next_of_goesOn ?_, next_of_goesOn ?_, next_of_goesOn ?_, next_of_goesOn ?_, next_of_goesOn ?_, ?_⟩
    <;> decide
theorem witness_InOut :
    peekIo plain 63 = some 0#8 ∧ peekIo plain 0 = none ∧ (0x3F : Fin 64).val = ref.sregIo := by decide
theorem witness_PushPop :
    plain.sp.toNat < plain.cfg.spModulus ∧ plain.stackRoom 1 ∧ State.stackRoom { plain with sp := 0x60#16 } 1 := by
  unfold State.stackRoom; decide
/-- The last byte of Program memory, the first address above it, and RAMPZ : Z. -/
theorem witness_ProgramLoads :
    (State.pairNat (machine ref 0x100 [(31, 0x7F#8), (30, 0xFF#8)] [(0x7FFF, 0x9A#8)] [] []) 30 = 2 * ref.flashEnd + 1
        ∧ (machine ref 0x100 [] [(0x7FFF, 0x9A#8)] [] []).flash.read 0x7FFF = some 0x9A#8)
      ∧ State.pairNat (machine ref 0x100 [(31, 0x80#8)] [] [] []) 30 = 2 * ref.flashEnd + 2
      ∧ ((29 : Reg) ≠ 30 ∧ (29 : Reg) ≠ 31) := by decide
theorem witness_ProgramMemoryLaws :
    let s := machine ref 0x100 [(31, 0x02#8)] (program 0x5876#16 0xABCD#16) [] []
    s.pairNat 30 % 2 = 0 ∧ wordAt s (s.pairNat 30 / 2) = some 0x5876#16 ∧ (∃ t, exec .lpmR0 s = .next t)
      ∧ (∃ u, exec .lpmR0 { s with regs := pairRegs s.regs 30 (s.pairNat 30 + 1) } = .next u) ∧ s.rampZ = 0#8
      ∧ (∃ t, exec (.lpmZInc 16) s = .next t) ∧ ∃ t, exec .spmZInc s = .next t := by
  refine ⟨by decide, by decide, next_of_goesOn ?_, next_of_goesOn ?_, by decide, next_of_goesOn ?_, next_of_goesOn ?_⟩
    <;> decide
/-- Two words, the last one just below byte address 65536. -/
theorem witness_TableRead :
    let s := machine { ref with flashEnd := 0xFFFF } 0x100 [(31, 0xFF#8), (30, 0xFC#8)]
      [(0xFFFC, 1#8), (0xFFFD, 2#8), (0xFFFE, 3#8), (0xFFFF, 4#8)] [] []
    (16 : Reg) ≠ 30 ∧ (16 : Reg) ≠ 31 ∧ s.pairNat 30 % 2 = 0 ∧ s.pairNat 30 + 2 * 2 ≤ 65536
      ∧ ∀ j < 2, (wordAt s (s.pairNat 30 / 2 + j)).isSome := by decide
theorem witness_SelfProgramming :
    (plain.cfg.hasRampZ = false ∧ plain.pairNat 30 % 2 = 0)
      ∧ State.pairNat (machine ref 0x100 [(30, 1#8)] [] [] []) 30 % 2 = 1 := by decide
/-- A page of the reference device, erased, with its first word in the buffer; the last page. -/
theorem witness_SpmOperations :
    let s := { machine ref 0x100 [] (List.map (fun i => (0x7FF8 + i, 0xFF#8)) (List.range 8)) [] [] with
      pageBuf := [(0, 0xCD#8), (1, 0xAB#8)] }
    s.cfg.wf = true ∧ 0x7FFE / 2 ≤ s.cfg.flashEnd ∧ 0x7FFE / 2 / s.cfg.spmPageWords * s.cfg.spmPageWords = 0x3FFC
      ∧ (∀ i < 4, s.flash.readWord (0x3FFC + i) = some 0xFFFF#16) ∧ s.pageBuf.readWord (0x3FFC - 0x3FFC) = some 0xABCD#16 := by
  decide
theorem witness_OnlySpmWritesProgram :
    (∃ t, exec (.sts 0x60#16 1) plain = .next t)
      ∧ (∃ t, step (machine ref 0x100 [] (program 0#16 0#16) [] []) = .next t)
      ∧ answer (fetchInstr (machine ref 0x100 [] (program 0#16 0#16) [] [])) id = some .nop :=
  ⟨next_of_goesOn (by decide), next_of_goesOn (by decide), by decide⟩
theorem witness_IoBits :
    peekIo (machine ref 0x100 [] [] [] [(31, 0x80#8)]) (lowIo 31) = some 0x80#8
      ∧ (peekIo plain (lowIo 0) = none ∧ ioTarget ref (lowIo 0) = .storage)
      ∧ ioTarget resetDevice (lowIo 0) = .device := by decide
theorem witness_BitLaws :
    (∃ t, execAll [.lsl 0, .lsr 0] plain = .next t) ∧ (∃ t, execAll [.lsr 0, .lsl 0] plain = .next t)
      ∧ (∃ t, exec (.rol 3) plain = .next t) ∧ ((0 : Reg) ≠ 1 ∧ ∃ t, execAll [.lsl 0, .rol 1] plain = .next t)
      ∧ (∃ t, execAll [.lsr 1, .ror 0] plain = .next t) ∧ (∃ t, execAll [.asr 1, .ror 0] plain = .next t)
      ∧ (∃ t, execAll [.bset 7, .bclr 7] plain = .next t) ∧ ∃ t, execAll [.bst 1 7, .bld 0 0] plain = .next t := by
  refine ⟨next_of_goesOn ?_, next_of_goesOn ?_, next_of_goesOn ?_, ⟨by decide, next_of_goesOn ?_⟩, next_of_goesOn ?_,
    next_of_goesOn ?_, next_of_goesOn ?_, next_of_goesOn ?_⟩ <;> decide
/-- A one-word and a two-word instruction to step over. -/
theorem witness_StepRunsDecoded :
    let s := machine ref 0x100 [] (program 0x0C12#16 0#16) [] []
    let t := machine ref 0x100 [] (program 0x940C#16 0x1234#16) [] []
    (s.quiet ∧ State.quiet { s with inputs := [[], [.reset]] } ∧ s.runsNext ∧ Instr.wf (.add 1 2) = true ∧ decode s.cfg 0x0C12#16 0#16 = .instr (.add 1 2)
        ∧ wordAt s s.pc.toNat = some 0x0C12#16)
      ∧ (t.quiet ∧ t.runsNext ∧ Instr.wf (.jmp 0x1234#22) = true
        ∧ decode t.cfg 0x940C#16 0x1234#16 = .instr (.jmp 0x1234#22) ∧ wordAt t t.pc.toNat = some 0x940C#16
        ∧ isTwoWord 0x940C#16 = true ∧ wordAt t (t.pc.toNat + 1) = some 0x1234#16) := by
  unfold State.runsNext State.quiet; decide
/-- The second of two vectors, the first not being asked for; awake, and asleep. -/
theorem witness_InterruptEntry :
    let s := { plain with sreg := 0x80#8, pending := [2] }
    s.quiet ∧ s.run ≠ .stopped ∧ RunState.sleeping ≠ .stopped ∧ s.sreg.getLsbD 7 = true ∧ s.inhibit = false
      ∧ s.cfg.vectors = [⟨1, 2, true⟩] ++ ⟨2, 4, true⟩ :: [] ∧ (∀ u ∈ [(⟨1, 2, true⟩ : VectorEntry)], u.num ∉ s.pending)
      ∧ 2 ∈ s.pending ∧ s.stackRoom s.cfg.pcBytes := by
  unfold State.stackRoom State.quiet; decide
theorem witness_InterruptThenReturn :
    let s := { plain with sreg := 0x80#8, pending := [2] }
    s.cfg.wf = true ∧ s.pc.toNat < 2 ^ s.cfg.pcBits ∧ s.sreg.getLsbD 7 = true ∧ s.stackRoom s.cfg.pcBytes
      ∧ ∃ t, takeInterrupt s ⟨2, 4, true⟩ = .next t := by
  refine ⟨by decide, by decide, by decide, by unfold State.stackRoom; decide, next_of_goesOn (by decide)⟩
theorem witness_EnableHoldsOff :
    let s := { machine ref 0x100 [] (program 0x9478#16 0#16) [(0x8FE, 0x01#8), (0x8FF, 0x01#8)] [] with
      sp := 0x8FD#16, pending := [1] }
    s.run = .running ∧ goesOn (exec .sei s) = true ∧ goesOn (exec (.bset 7) s) = true
      ∧ answer (exec .sei s) (fun t => (t.inputs, answer (fetchInstr t) id)) = some ([], some .nop)
      ∧ answer (exec .reti s) (fun t => (t.inputs, answer (fetchInstr t) id)) = some ([], some .nop) := by decide
/-- Awake with I clear, stopped, asleep with I clear, asleep with I set and nothing asked for. -/
theorem witness_NoInterrupt :
    (plain.quiet ∧ plain.run = .running ∧ plain.sreg.getLsbD 7 = false)
      ∧ ({ plain with run := .stopped } : State).run = .stopped
      ∧ (({ plain with run := .sleeping } : State).run = .sleeping ∧ plain.sreg.getLsbD 7 = false)
      ∧ (({ plain with sreg := 0x80#8 } : State).sreg.getLsbD 7 = true ∧ ∀ v ∈ ref.vectors, v.num ∉ plain.pending) := by
  unfold State.quiet; decide
/-- The ends of a run: stopped, asleep, and at an RJMP to itself, with I clear or with I set and no request to come; something
comes from outside before the step. -/
theorem witness_NoInterrupt_ended :
    let s := { machine ref 0x100 [] (program 0xCFFF#16 0#16) [] [] with inputs := [[.request 1], [.reset]] }
    let t := { machine ref 0x100 [] (program 0xCFFF#16 0#16) [] [] with sreg := 0x80#8, inputs := [[.request 3]] }
    (s.wf = true ∧ s.ended = true ∧ Input.reset ∉ s.inputs.headD [])
      ∧ (t.wf = true ∧ t.ended = true ∧ Input.reset ∉ t.inputs.headD [])
      ∧ State.ended { t with inputs := [[.request 1]] } = false
      ∧ State.ended { plain with run := .stopped } = true ∧ State.ended { plain with run := .sleeping } = true
      ∧ State.ended plain = false := by decide
/-- A reset among other events; then each other event, at a location that is storage and at one that is not. -/
theorem witness_OutsideEvents :
    ({ plain with inputs := [[.request 1, .reset], []] } : State).inputs = [.request 1, .reset] :: [[]]
      ∧ Input.reset ∈ [Input.request 1, .reset] ∧ ref.wf = true ∧ wide.wf = true
      ∧ Input.reset ∉ [Input.request 2] ∧ 1 ∉ plain.pending ∧ 1 ∈ ({ plain with pending := [1] } : State).pending
      ∧ ((0 : Fin 64).val ∉ ref.coreIoAddresses ∧ inSpans ref.ioStorage (0 : Fin 64).val = true)
      ∧ ¬((0x3F : Fin 64).val ∉ ref.coreIoAddresses ∧ inSpans ref.ioStorage (0x3F : Fin 64).val = true)
      ∧ (dataPlace (stored mapped) 0x60 = .extIo ∧ inSpans (stored mapped).extStorage 0x60 = true)
      ∧ ¬(dataPlace (stored mapped) 0xFF = .extIo ∧ inSpans (stored mapped).extStorage 0xFF = true) := by decide
theorem witness_StepKeepsWf :
    let s := machine ref 0x100 [] (program 0x0C12#16 0#16) [] []
    s.wf = true ∧ ∃ t, step s = .next t :=
  ⟨by decide, next_of_goesOn (by decide)⟩
theorem witness_WhoChangesI :
    answer (exec .sei plain) (fun t => (t.sreg.getLsbD 7, plain.sreg.getLsbD 7)) = some (true, false)
      ∧ answer (memWrite plain 0x5F 0x81#8) (fun t => (t.sreg, plain.sreg)) = some (0x81#8, 0#8) := by decide
theorem witness_encodings :
    Instr.wf (.ldi 16 0xFF#8) = true ∧ resetDevice.offers (Instr.canonical (.ldi 16 0xFF#8)) = true
      ∧ resetDevice.hasRegs (Instr.canonical (.ldi 16 0xFF#8)) = true ∧ Instr.wf (.lsl 31) = true
      ∧ Instr.wf (.call 0x3FFFFF#22) = true ∧ decode resetDevice 0x95FF#16 0xFFFF#16 = .instr (.call 0x3FFFFF#22)
      ∧ resetDevice.reducedCore = false ∧ reduced.reducedCore = true
      ∧ decode reduced 0xA102#16 0#16 = .instr (.lds16 16 0x12#7) ∧ decode reduced 0x8100#16 0#16 = .instr (.lddZ 16 0)
      ∧ decode ref 0x8D07#16 0#16 = .instr (.lddZ 16 31) ∧ decode ref 0x8001#16 0#16 = .instr (.lddZ 0 1) := by decide
theorem witness_ReservedWords :
    let s := machine ref 0x100 [] (program 0x0001#16 0#16) [] []
    s.quiet ∧ s.runsNext ∧ wordAt s s.pc.toNat = some 0x0001#16
      ∧ decode s.cfg 0x0001#16 0#16 = .rejected .noRow
      ∧ (reduced.reducedCore = true ∧ (0x8101#16 : Word16).toNat / 4096 = 8 ∧ (0x8101#16 : Word16).toNat % 8 ≠ 0
        ∧ (0x8C00#16 : Word16).toNat / 4096 = 8 ∧ (0x8C00#16 : Word16).toNat / 1024 % 4 ≠ 0) := by
  unfold State.runsNext State.quiet; decide

end Sys2Proof.Tests
end

section
/-! Every step keeps the invariant (spec/00_scope.md R11, spec/10_state.md R26, R31): the relation `StaysWf`, one rule per state
operation, one fact per shared ending of an instruction, then all the instructions and the step. -/
namespace Sys2Proof.Machine

/-- `t` is a state of the same device as `s`, and meets the invariant where `s` does. -/
structure StaysWf (s t : State) : Prop where
  wf : s.wf = true → t.wf = true
  cfg : t.cfg = s.cfg

/-- Wherever `r` goes on from `s`, it goes on to a state that keeps the invariant. -/
def KeepsWf (s : State) (r : Res State) : Prop := ∀ t, r = .next t → StaysWf s t

namespace StaysWf

theorem refl (s : State) : StaysWf s s := ⟨id, rfl⟩

theorem trans {s t u : State} (h : StaysWf s t) (k : StaysWf t u) : StaysWf s u :=
  ⟨fun hs => k.wf (h.wf hs), k.cfg.trans h.cfg⟩

variable {s t u : State} (h : StaysWf s t)
include h

/-- The fields that the invariant does not speak of may change. -/
theorem of_same (hc : u.cfg = t.cfg) (hp : u.pc = t.pc) (hs : u.sp = t.sp) (hf : u.flash = t.flash)
    (hm : u.sram = t.sram) (hi : u.ioDev = t.ioDev) (he : u.extDev = t.extDev) (hb : u.pageBuf = t.pageBuf)
    (hq : u.pending = t.pending) : StaysWf s u :=
  h.trans ⟨fun k => State.wf_of_same k hc hp hs hf hm hi he hb hq, hc⟩

theorem setReg {d : Reg} {v : Byte} : StaysWf s (t.setReg d v) := h.trans ⟨State.setReg_wf d v, rfl⟩

theorem setPair {d : Reg} {v : Word16} : StaysWf s (t.setPair d v) := h.trans ⟨State.setPair_wf d v, rfl⟩

theorem setSreg {v : Byte} : StaysWf s (t.setSreg v) := h.trans ⟨State.setSreg_wf v, rfl⟩

theorem setPc {n : Nat} : StaysWf s (t.setPc n) := h.trans ⟨State.setPc_wf n, rfl⟩

theorem advance {n : Nat} : StaysWf s (t.advance n) := h.setPc

theorem finish {d : Reg} {v f : Byte} : StaysWf s (t.finish d v f) := h.setReg.setSreg.advance

theorem finishPair {d : Reg} {v : Word16} {f : Byte} : StaysWf s (t.finishPair d v f) := h.setPair.setSreg.advance

theorem setBlocks {x y : BitVec 64} : StaysWf s (t.setBlocks x y) :=
  h.of_same (by simp) (by simp) (by simp) (by simp) (by simp) (by simp) (by simp) (by simp) (by simp)

theorem setRampZZ {n : Nat} : StaysWf s (t.setRampZZ n) := h.of_same rfl rfl rfl rfl rfl rfl rfl rfl rfl

theorem setRun {r : RunState} : StaysWf s { t with run := r } := h.of_same rfl rfl rfl rfl rfl rfl rfl rfl rfl

theorem setInhibit {b : Bool} : StaysWf s { t with inhibit := b } := h.of_same rfl rfl rfl rfl rfl rfl rfl rfl rfl

theorem setInputs {l : List (List Input)} : StaysWf s { t with inputs := l } :=
  h.of_same rfl rfl rfl rfl rfl rfl rfl rfl rfl

theorem enableInterrupts : StaysWf s t.enableInterrupts := h.trans ⟨State.enableInterrupts_wf, rfl⟩

theorem noteInstr {i : Instr} : StaysWf s (t.noteInstr i) := h.trans ⟨State.noteInstr_wf i, rfl⟩

theorem ioRead {a : Fin 64} : StaysWf s (ioRead t a).2 := h.trans ⟨ioRead_wf a, (SameControl.ioRead t a).cfg⟩

theorem ioWrite {a : Fin 64} {v : Byte} : StaysWf s (ioWrite t a v) :=
  h.trans ⟨ioWrite_wf a v, (SameControl.ioWrite t a v).cfg⟩

theorem ioBitWrite {a : Fin 64} {b : BitNum} {on : Bool} : StaysWf s (ioBitWrite t a b on) :=
  h.trans ⟨ioBitWrite_wf a b on, (SameControl.ioBitWrite t a b on).cfg⟩

theorem ptrSet {p : Ptr} {n : Nat} : StaysWf s (ptrSet t p n) := by
  refine h.trans ⟨ptrSet_wf p n, ?_⟩
  unfold Sys2Proof.Machine.ptrSet
  split
  · rfl
  · split
    · cases p <;> rfl
    · rfl

theorem branchIf {cond : Bool} {k : BitVec 7} : StaysWf s (branchIf t cond k) := by
  unfold Sys2Proof.Machine.branchIf
  split
  · exact h.setPc
  · exact h.advance

theorem acknowledge {v : VectorEntry} : StaysWf s (t.acknowledge v) := by
  refine h.trans ⟨acknowledge_wf v, ?_⟩
  unfold State.acknowledge
  split <;> rfl

theorem spmEffect {op : SpmOp} {b : Nat} {w : Word16} : StaysWf s (spmEffect t op b w) :=
  h.trans ⟨spmEffect_wf op b w, rfl⟩

theorem memRead {a : Nat} {p : Byte × State} (hr : memRead t a = .next p) : StaysWf s p.2 :=
  h.trans ⟨fun k => memRead_wf k hr, (SameControl.memRead hr).cfg⟩

theorem memWrite {a : Nat} {v : Byte} (hr : memWrite t a v = .next u) : StaysWf s u :=
  h.trans ⟨fun k => memWrite_wf k hr, (SameControl.memWrite hr).cfg⟩

theorem push {v : Byte} (hr : push t v = .next u) : StaysWf s u :=
  h.trans ⟨fun k => push_wf k hr, (SameControl.push hr).cfg⟩

theorem pop {p : Byte × State} (hr : pop t = .next p) : StaysWf s p.2 :=
  h.trans ⟨fun k => pop_wf k hr, (SameControl.pop hr).cfg⟩

theorem pushPc {a : Nat} (hr : pushPc t a = .next u) : StaysWf s u :=
  h.trans ⟨fun k => pushPc_wf k hr, (SameControl.pushPc hr).cfg⟩

theorem popPc {p : Nat × State} (hr : popPc t = .next p) : StaysWf s p.2 :=
  h.trans ⟨fun k => popPc_wf k hr, (SameControl.popPc hr).cfg⟩

theorem applyInput {e : Input} : StaysWf s (t.applyInput e) := by
  obtain ⟨⟨_, _, _, _, he⟩, -⟩ := applyInput_same t e
  exact h.trans ⟨applyInput_wf e, by rw [he]⟩

theorem applyInputs {es : List Input} : StaysWf s (es.foldl State.applyInput t) := by
  induction es generalizing t with
  | nil => exact h
  | cons e es ih => exact ih h.applyInput

end StaysWf

namespace KeepsWf

variable {α : Type} {s t : State}

theorem next (h : StaysWf s t) : KeepsWf s (.next t) := by
  intro u hu
  cases hu
  exact h

theorem fault {e : Fault} : KeepsWf s (.fault e) := fun _ h => nomatch h

theorem refused {e : Refusal} : KeepsWf s (.refused e) := fun _ h => nomatch h

theorem andThen {r : Res α} {f : α → Res State} (h : ∀ a, r = .next a → KeepsWf s (f a)) : KeepsWf s (r.andThen f) := by
  intro t ht
  obtain ⟨a, ha, hf⟩ := Res.andThen_eq_next.1 ht
  exact h a ha t hf

/-- Whatever `t` comes to counts from `s`, where `t` itself keeps what `s` has. -/
theorem of_stays {r : Res State} (h : StaysWf s t) (k : KeepsWf t r) : KeepsWf s r := fun u hu => h.trans (k u hu)

end KeepsWf

/-! ### The shared endings of the instructions -/

section
variable (s : State)

theorem flagWrite_keepsWf (b : BitNum) (on : Bool) : KeepsWf s (flagWrite s b on) := by
  unfold flagWrite
  split
  · exact .next (StaysWf.refl s).enableInterrupts.advance
  · exact .next (StaysWf.refl s).setSreg.advance

theorem skipIf_keepsWf (cond : Bool) : KeepsWf s (skipIf s cond) := by
  unfold skipIf
  split
  · exact .andThen fun n _ => .next (StaysWf.refl s).advance
  · exact .next (StaysWf.refl s).advance

theorem callTo_keepsWf (n target : Nat) : KeepsWf s (callTo s n target) :=
  .andThen fun _ h => .next ((StaysWf.refl s).pushPc h).setPc

theorem ret_keepsWf : KeepsWf s (execRet s) := .andThen fun _ h => .next ((StaysWf.refl s).popPc h).setPc

theorem returnFromInterrupt_keepsWf : KeepsWf s (returnFromInterrupt s) :=
  .andThen fun _ h => .next ((StaysWf.refl s).popPc h).setPc.enableInterrupts

theorem takeInterrupt_keepsWf (v : VectorEntry) : KeepsWf s (takeInterrupt s v) :=
  .andThen fun _ h => .next ((StaysWf.refl s).setRun.pushPc h).setSreg.setPc.acknowledge

theorem loadFrom_keepsWf (d : Reg) (a n : Nat) : KeepsWf s (loadFrom s d a n) :=
  .andThen fun _ h => .next ((StaysWf.refl s).memRead h).setReg.advance

theorem storeTo_keepsWf (a : Nat) (v : Byte) (n : Nat) : KeepsWf s (storeTo s a v n) :=
  .andThen fun _ h => .next ((StaysWf.refl s).memWrite h).advance

theorem loadPostInc_keepsWf (p : Ptr) (d : Reg) : KeepsWf s (loadPostInc s p d) := by
  unfold loadPostInc
  split
  · exact .fault
  · exact .andThen fun _ h => .next ((StaysWf.refl s).memRead h).setReg.ptrSet.advance

theorem loadPreDec_keepsWf (p : Ptr) (d : Reg) : KeepsWf s (loadPreDec s p d) := by
  unfold loadPreDec
  split
  · exact .fault
  · exact .of_stays (StaysWf.refl s).ptrSet (loadFrom_keepsWf _ d _ 1)

theorem storePostInc_keepsWf (p : Ptr) (r : Reg) : KeepsWf s (storePostInc s p r) := by
  unfold storePostInc
  split
  · exact .fault
  · split
    · exact .fault
    · exact .andThen fun _ h => .next ((StaysWf.refl s).memWrite h).ptrSet.advance

theorem storePreDec_keepsWf (p : Ptr) (r : Reg) : KeepsWf s (storePreDec s p r) := by
  unfold storePreDec
  split
  · exact .fault
  · split
    · exact .fault
    · exact .of_stays (StaysWf.refl s).ptrSet (storeTo_keepsWf _ _ _ 1)

theorem loadProgram_keepsWf (d : Reg) (b : Nat) : KeepsWf s (loadProgram s d b) :=
  .andThen fun _ _ => .next (StaysWf.refl s).setReg.advance

theorem lpmZInc_keepsWf (d : Reg) : KeepsWf s (execLpmZInc d s) := by
  unfold execLpmZInc
  split
  · exact .fault
  · exact .andThen fun _ _ => .next (StaysWf.refl s).setReg.setPair.advance

theorem elpmZInc_keepsWf (d : Reg) : KeepsWf s (execElpmZInc d s) := by
  unfold execElpmZInc
  split
  · exact .fault
  · exact .andThen fun _ _ => .next (StaysWf.refl s).setReg.setRampZZ.advance

theorem spmAt_keepsWf (b : Nat) (w : Word16) : KeepsWf s (spmAt s b w) := by
  unfold spmAt
  split
  · exact .refused
  · exact .next (StaysWf.refl s).spmEffect

theorem brk_keepsWf : KeepsWf s (execBrk s) := by
  unfold execBrk
  split
  · exact .next (StaysWf.refl s).advance.setRun
  · exact .next (StaysWf.refl s).advance

theorem sleep_keepsWf : KeepsWf s (execSleep s) := by
  unfold execSleep
  split
  · exact .next (StaysWf.refl s).advance.setRun
  · exact .next (StaysWf.refl s).advance

end

/-- Every instruction keeps the invariant. The cases are grouped by how the instruction ends. -/
theorem exec_keepsWf (i : Instr) (s : State) : KeepsWf s (exec i s) := by
  have same := StaysWf.refl s
  cases i with
  | add | adc | sub | subi | sbc | sbci | and | andi | or | ori | eor | com | neg | sbr | cbr | inc | dec | tst | clr | ser
  | mov | ldi | lsl | lsr | rol | ror | asr | swap | bld => exact .next same.finish
  | adiw | sbiw | mul | muls | mulsu | fmul | fmuls | fmulsu | movw => exact .next same.finishPair
  | des => exact .next same.setBlocks.advance
  | cp | cpc | cpi | bst => exact .next same.setSreg.advance
  | rjmp | ijmp | eijmp | jmp => exact .next same.setPc
  | rcall | icall | eicall | call => exact callTo_keepsWf s _ _
  | ret => exact ret_keepsWf s
  | reti => exact returnFromInterrupt_keepsWf s
  | cpse | sbrc | sbrs => exact skipIf_keepsWf s _
  | sbic | sbis => exact .of_stays same.ioRead (skipIf_keepsWf _ _)
  | brbs | brbc | breq | brne | brcs | brcc | brsh | brlo | brmi | brpl | brge | brlt | brhs | brhc | brts | brtc | brvs
  | brvc | brie | brid => exact .next same.branchIf
  | lds | lds16 | ldX | ldY | lddY | ldZ | lddZ => exact loadFrom_keepsWf s _ _ _
  | ldXInc | ldYInc | ldZInc => exact loadPostInc_keepsWf s _ _
  | ldXDec | ldYDec | ldZDec => exact loadPreDec_keepsWf s _ _
  | sts | sts16 | stX | stY | stdY | stZ | stdZ => exact storeTo_keepsWf s _ _ _
  | stXInc | stYInc | stZInc => exact storePostInc_keepsWf s _ _
  | stXDec | stYDec | stZDec => exact storePreDec_keepsWf s _ _
  | ioIn => exact .next same.ioRead.setReg.advance
  | ioOut => exact .next same.ioWrite.advance
  | push => exact .andThen fun _ h => .next (same.push h).advance
  | pop => exact .andThen fun _ h => .next (same.pop h).setReg.advance
  | lpmR0 | lpmZ | elpmR0 | elpmZ => exact loadProgram_keepsWf s _ _
  | lpmZInc => exact lpmZInc_keepsWf s _
  | elpmZInc => exact elpmZInc_keepsWf s _
  | spm => exact .andThen fun t h => .next (spmAt_keepsWf s _ _ t h).advance
  | spmZInc => exact .andThen fun t h => .next (spmAt_keepsWf s _ _ t h).setPair.advance
  | bset | bclr => exact flagWrite_keepsWf s _ _
  | sec | clc | sen | cln | sez | clz | cli | ses | cls | sev | clv | setT | clt | seh | clh =>
    exact .next same.setSreg.advance
  | sei => exact .next same.enableInterrupts.advance
  | sbi | cbi => exact .next same.ioBitWrite.advance
  | brk => exact brk_keepsWf s
  | sleep => exact sleep_keepsWf s
  | nop | wdr => exact .next same.advance

/-! ### The step -/

/-- The reset state of an admissible device meets the invariant. -/
theorem resetState_wf {c : Config} (h : c.wf = true) : (resetState c).wf = true := by
  obtain ⟨-, hbits, hflash⟩ := Config.wf_pcBits h
  obtain ⟨-, haddr⟩ := Config.wf_addresses h
  have hpow : 2 ^ c.pcBits ≤ 2 ^ 22 := Nat.pow_le_pow_right (by decide) hbits
  have hpc : (resetState c).pc.toNat = c.resetAddr := Nat.mod_eq_of_lt (by omega)
  have hsp : resetSp.toNat < c.spModulus := by
    rcases Config.spModulus_cases c with ⟨-, hm⟩ | ⟨-, hm⟩ <;> rw [hm] <;> decide
  rw [State.wf_iff]
  exact ⟨h, hpc ▸ lt_of_le_of_lt haddr hflash, hsp, rfl, rfl, rfl, rfl, rfl, List.nodup_nil⟩

/-- A reset event keeps the invariant: Program memory stays canonical, the rest is the reset state (R440). -/
theorem StaysWf.resetEvent {s t : State} (h : StaysWf s t) : StaysWf s t.resetEvent := by
  refine h.trans ⟨fun ht => ?_, rfl⟩
  obtain ⟨hcfg, -, -, hflash, -⟩ := (State.wf_iff t).1 ht
  obtain ⟨-, hpc, hsp, -, hrest⟩ := (State.wf_iff _).1 (resetState_wf hcfg)
  exact (State.wf_iff _).2 ⟨hcfg, hpc, hsp, hflash, hrest⟩

theorem takeInputs_eq (s : State) : s.takeInputs = (s.inputs.headD [], { s with inputs := s.inputs.tail }) := by
  unfold State.takeInputs
  split
  · next h =>
    have hs : { s with inputs := [] } = s := by rw [← h]
    simp [h, hs]
  · next h => simp [h]

/-- A step with a reset among its events is the reset alone (R440). -/
theorem beginStep_of_reset {s : State} (h : Input.reset ∈ s.inputs.headD []) :
    s.beginStep = .idle (State.resetEvent { s with inputs := s.inputs.tail }) := by
  unfold State.beginStep
  rw [takeInputs_eq]
  simp only [List.contains_eq_mem, h, decide_true, if_true]

/-- The state once the events of this step have happened, a reset not being among them (R423). -/
def State.afterEvents (s : State) : State :=
  (s.inputs.headD []).foldl State.applyInput { s with inputs := s.inputs.tail }

theorem StaysWf.afterEvents (s : State) : StaysWf s s.afterEvents := (StaysWf.refl s).setInputs.applyInputs

/-- Everything a plan can be (R11). -/
theorem plan_cases (s : State) :
    s.plan = .idle s ∨ (∃ v, s.plan = .interrupt v s) ∨ s.plan = .execute { s with inhibit := false } := by
  unfold State.plan
  split
  · exact .inl rfl
  · split
    · exact .inr (.inl ⟨_, rfl⟩)
    · split
      · exact .inl rfl
      · exact .inr (.inr rfl)

/-- Everything a step that goes on can be (R11): a reset; or, once the events have happened, nothing, an interrupt entry, or one
instruction. -/
theorem step_cases {s t : State} (h : step s = .next t) :
    t = State.resetEvent { s with inputs := s.inputs.tail } ∨ t = s.afterEvents
      ∨ (∃ v, takeInterrupt s.afterEvents v = .next t)
      ∨ ∃ i, exec i (State.noteInstr { s.afterEvents with inhibit := false } i) = .next t := by
  unfold step at h
  by_cases hr : Input.reset ∈ s.inputs.headD []
  · rw [beginStep_of_reset hr] at h
    cases h
    exact .inl rfl
  · rw [beginStep_of_no_reset hr, ← State.afterEvents] at h
    rcases plan_cases s.afterEvents with hp | ⟨v, hp⟩ | hp <;> rw [hp] at h
    · cases h
      exact .inr (.inl rfl)
    · exact .inr (.inr (.inl ⟨v, h⟩))
    · obtain ⟨i, -, hi⟩ := Res.andThen_eq_next.1 h
      exact .inr (.inr (.inr ⟨i, hi⟩))

theorem step_keepsWf (s : State) : KeepsWf s (step s) := by
  intro t h
  have events := StaysWf.afterEvents s
  rcases step_cases h with rfl | rfl | ⟨v, hv⟩ | ⟨i, hi⟩
  · exact (StaysWf.refl s).setInputs.resetEvent
  · exact events
  · exact events.trans (takeInterrupt_keepsWf _ v t hv)
  · exact events.setInhibit.noteInstr.trans (exec_keepsWf i _ t hi)

/-- Settles O53: the events, the reset, the interrupt entry and every instruction keep the invariant. -/
theorem stepKeepsWf : Obligations.StepKeepsWf := by
  intro s t hs h
  have k := step_keepsWf s t h
  exact ⟨k.wf hs, k.cfg⟩

end Sys2Proof.Machine
end

section
/-! A step runs the instruction at the pc (spec/00_scope.md R11, spec/20_memory.md R62, spec/30_encoding.md R122): when the second
word has a part in decoding, what it can change there, and the fetch of a decoded instruction. -/
namespace Sys2Proof.Machine

/-! ### The second word in decoding -/

/-- The first words that decoding reads a second word for: `1001 00sd dddd 0000` (LDS, STS) and `1001 010k kkkk 11ck` (JMP, CALL),
as the decoder takes them apart (R106, R116). -/
def TakesSecond (w : Nat) : Prop :=
  bitsAt w 12 4 = 9
    ∧ (bitsAt w 8 4 < 4 ∧ bitsAt w 0 4 = 0 ∨ (bitsAt w 8 4 = 4 ∨ bitsAt w 8 4 = 5) ∧ 12 ≤ bitsAt w 0 4)

theorem getLsbD_eq_div (w : Word16) (i : Nat) : w.getLsbD i = decide (w.toNat / 2 ^ i % 2 = 1) := by
  rw [BitVec.getLsbD, Nat.testBit_eq_decide_div_mod_eq]

/-- A masked word, bit by bit. -/
theorem and_mask_eq_iff (w m v : Word16) :
    w &&& m = v ↔ ∀ i < 16, (decide (w.toNat / 2 ^ i % 2 = 1) && m.getLsbD i) = v.getLsbD i := by
  simp only [← getLsbD_eq_div, ← BitVec.getLsbD_and]
  exact ⟨fun h i _ => by rw [h], BitVec.eq_of_getLsbD_eq⟩

/-- The test of R101 holds for every word whose decoding reads a second one. -/
theorem isTwoWord_of_takesSecond {w : Word16} (h : TakesSecond w.toNat) : isTwoWord w = true := by
  obtain ⟨hnine, hmid⟩ := h
  simp only [isTwoWord, Bool.or_eq_true, beq_iff_eq, and_mask_eq_iff]
  simp only [bitsAt, Nat.reducePow, Nat.div_one] at hnine hmid
  rcases hmid with ⟨hx, hm⟩ | ⟨hx, hm⟩
  · right
    intro i hi
    interval_cases i <;> simp <;> omega
  · left
    intro i hi
    interval_cases i <;> simp <;> omega

/-- `j` asks of a device what `i` asks: the same rows, parts and registers. -/
def SameNeeds (i j : Instr) : Prop := ∀ c : Config, c.offers j = c.offers i ∧ c.hasRegs j = c.hasRegs i

theorem sameNeeds_lds (d : Reg) (k l : BitVec 16) : SameNeeds (.lds d k) (.lds d l) := fun _ => ⟨rfl, rfl⟩

theorem sameNeeds_sts (k l : BitVec 16) (r : Reg) : SameNeeds (.sts k r) (.sts l r) := fun _ => ⟨rfl, rfl⟩

theorem sameNeeds_jmp (k l : BitVec 22) : SameNeeds (.jmp k) (.jmp l) := fun _ => ⟨rfl, rfl⟩

theorem sameNeeds_call (k l : BitVec 22) : SameNeeds (.call k) (.call l) := fun _ => ⟨rfl, rfl⟩

/-- Another second word changes what a word decodes to in its address alone, and nothing where decoding reads none. -/
def SecondWordOnly (w : Nat) (f : Nat → Option Instr) : Prop :=
  ∀ a b i, f a = some i → ∃ j, f b = some j ∧ SameNeeds i j ∧ (TakesSecond w ∨ j = i)

theorem secondWordOnly_const (w : Nat) (r : Option Instr) : SecondWordOnly w fun _ => r :=
  fun _ _ i h => ⟨i, h, fun _ => ⟨rfl, rfl⟩, .inr rfl⟩

theorem secondWordOnly_some {w : Nat} {f : Nat → Instr} (h : TakesSecond w) (hf : ∀ a b, SameNeeds (f a) (f b)) :
    SecondWordOnly w fun a => some (f a) := by
  intro a b i hi
  cases hi
  exact ⟨f b, rfl, hf a b, .inl h⟩

theorem decodeLoad_second {w : Nat} (hw : bitsAt w 12 4 = 9) (hx : bitsAt w 8 4 < 4) : SecondWordOnly w (decodeLoad w) := by
  unfold decodeLoad
  by_cases hm : bitsAt w 0 4 = 0
  · simp only [hm, if_true]
    exact secondWordOnly_some ⟨hw, .inl ⟨hx, hm⟩⟩ fun _ _ => sameNeeds_lds _ _ _
  · simp only [hm, if_false]
    exact secondWordOnly_const w _

theorem decodeStore_second {w : Nat} (hw : bitsAt w 12 4 = 9) (hx : bitsAt w 8 4 < 4) : SecondWordOnly w (decodeStore w) := by
  unfold decodeStore
  by_cases hm : bitsAt w 0 4 = 0
  · simp only [hm, if_true]
    exact secondWordOnly_some ⟨hw, .inl ⟨hx, hm⟩⟩ fun _ _ => sameNeeds_sts _ _ _
  · simp only [hm, if_false]
    exact secondWordOnly_const w _

theorem decodeOneReg_second {w : Nat} (hw : bitsAt w 12 4 = 9) (hx : bitsAt w 8 4 = 4 ∨ bitsAt w 8 4 = 5) :
    SecondWordOnly w (decodeOneReg w) := by
  have takes (hm : 12 ≤ bitsAt w 0 4) : TakesSecond w := ⟨hw, .inr ⟨hx, hm⟩⟩
  unfold decodeOneReg
  by_cases hj : bitsAt w 0 4 = 12 ∨ bitsAt w 0 4 = 13
  · have hs := secondWordOnly_some (takes (by omega)) fun a b => sameNeeds_jmp (fieldAbs w a) (fieldAbs w b)
    rcases hj with hm | hm <;> simpa [hm] using hs
  by_cases hc : bitsAt w 0 4 = 14 ∨ bitsAt w 0 4 = 15
  · have hs := secondWordOnly_some (takes (by omega)) fun a b => sameNeeds_call (fieldAbs w a) (fieldAbs w b)
    rcases hc with hm | hm <;> simpa [hm] using hs
  · simp only [hj, hc, if_false]
    exact secondWordOnly_const w _

theorem decodeNine_second {w : Nat} (hw : bitsAt w 12 4 = 9) : SecondWordOnly w (decodeNine w) := by
  unfold decodeNine
  by_cases hload : bitsAt w 8 4 = 0 ∨ bitsAt w 8 4 = 1
  · simp only [hload, if_true]
    exact decodeLoad_second hw (by omega)
  by_cases hstore : bitsAt w 8 4 = 2 ∨ bitsAt w 8 4 = 3
  · simp only [hload, hstore, if_true, if_false]
    exact decodeStore_second hw (by omega)
  by_cases hone : bitsAt w 8 4 = 4 ∨ bitsAt w 8 4 = 5
  · simp only [hload, hstore, hone, if_true, if_false]
    exact decodeOneReg_second hw hone
  · simp only [hload, hstore, hone, if_false]
    exact secondWordOnly_const w _

theorem decodeRow_second (reduced : Bool) (w : Nat) : SecondWordOnly w (decodeRow reduced w) := by
  unfold decodeRow
  by_cases hw : bitsAt w 12 4 = 9
  · simpa [hw] using decodeNine_second hw
  · simp only [hw, if_false]
    exact secondWordOnly_const w _

/-- When a word decodes: it has a row, the device offers it, and its registers are there (R122). -/
theorem decode_eq_instr {c : Config} {w w2 : Word16} {i : Instr} :
    decode c w w2 = .instr i
      ↔ decodeRow c.reducedCore w.toNat w2.toNat = some i ∧ c.offers i = true ∧ c.hasRegs i = true := by
  constructor
  · intro h
    unfold decode at h
    split at h
    · cases h
    · split at h
      · cases h
      · next hoffers =>
        split at h
        · cases h
        · next hregs =>
          cases h
          exact ⟨‹_›, by simpa using hoffers, by simpa using hregs⟩
  · rintro ⟨hrow, hoffers, hregs⟩
    simp [decode, hrow, hoffers, hregs]

/-- A first word decodes with every second word or with none, and to the same instruction if it is of one word (R101). -/
theorem decode_other_second {c : Config} {w a : Word16} {i : Instr} (h : decode c w a = .instr i) (b : Word16) :
    ∃ j, decode c w b = .instr j ∧ (isTwoWord w = true ∨ j = i) := by
  obtain ⟨hrow, hoffers, hregs⟩ := decode_eq_instr.1 h
  obtain ⟨j, hj, hneeds, hsame⟩ := decodeRow_second c.reducedCore w.toNat _ b.toNat i hrow
  obtain ⟨ho, hr⟩ := hneeds c
  exact ⟨j, decode_eq_instr.2 ⟨hj, ho.trans hoffers, hr.trans hregs⟩, hsame.imp_left isTwoWord_of_takesSecond⟩

/-! ### Fetching what stands at the pc -/

/-- `ProgWord` answers the word that stands at an address (R61). -/
theorem progWord_of_wordAt {s : State} {a : Nat} {w : Word16} (h : wordAt s a = some w) : progWord s a = .next w := by
  unfold wordAt at h
  unfold progWord
  split at h
  · rw [if_pos ‹_›, h]
  · cases h

/-- The words at the pc decoding to an instruction, the fetch gives that instruction (R62). -/
theorem fetchInstr_of_decode {s : State} {w w2 : Word16} {i : Instr} (h : decode s.cfg w w2 = .instr i)
    (hw : wordAt s s.pc.toNat = some w) (hw2 : isTwoWord w = true → wordAt s (s.pc.toNat + 1) = some w2) :
    fetchInstr s = .next i := by
  obtain ⟨j, hj, hsame⟩ := decode_other_second h 0#16
  unfold fetchInstr
  rw [progWord_of_wordAt hw, Res.andThen_next]
  cases htwo : isTwoWord w with
  | true => simp [hj, progWord_of_wordAt (hw2 htwo), h]
  | false =>
    have hji : j = i := hsame.resolve_left (by simp [htwo])
    simp [hj, hji]

/-- With the core awake and no interrupt to take, none is due (R405). -/
theorem dueInterrupt_of_runsNext {s : State} (h : s.runsNext) : s.dueInterrupt = none := by
  obtain ⟨-, hclear | hheld | hnone⟩ := h
  · exact dueInterrupt_of_clear hclear
  · exact dueInterrupt_of_inhibit hheld
  · exact dueInterrupt_of_none hnone

/-- Settles O46: the step is the fetch at the pc and the meaning of what is fetched there. -/
theorem stepRunsDecoded : Obligations.StepRunsDecoded := by
  intro s w w2 i hquiet hnext _ hdecode hw hw2
  rw [step_runs hquiet hnext.1 (dueInterrupt_of_runsNext hnext), fetchInstr_of_decode hdecode hw hw2, Res.andThen_next]
  rfl

end Sys2Proof.Machine
end

section
/-! The I/O space (spec/10_state.md R31, R33, spec/20_memory.md R65): the core registers as a table of addresses, what answers at an
address of that table and off it, and the reads and writes that follow. -/
namespace Sys2Proof.Machine

/-! ### The table of core registers -/

/-- A core register of the I/O space (R33): whether the device has it, its address, and what answers there. -/
structure CoreRow where
  present : Bool
  addr : Nat
  target : IoTarget

/-- The core registers in the order the dispatch of R65 tests them. -/
def Config.coreRows (c : Config) : List CoreRow :=
  [⟨true, c.sregIo, .sreg⟩, ⟨true, c.splIo, .spl⟩, ⟨decide (c.spWidth = .sixteen), c.sphIo, .sph⟩,
    ⟨c.hasRampX, c.rampXIo, .rampX⟩, ⟨c.hasRampY, c.rampYIo, .rampY⟩, ⟨c.hasRampZ, c.rampZIo, .rampZ⟩,
    ⟨c.hasRampD, c.rampDIo, .rampD⟩, ⟨c.hasEind, c.eindIo, .eind⟩]

theorem coreIoAddresses_eq (c : Config) :
    c.coreIoAddresses = ((Config.coreRows c).filter CoreRow.present).map CoreRow.addr := by
  have cons (r : CoreRow) (rows : List CoreRow) : ((r :: rows).filter CoreRow.present).map CoreRow.addr
      = (if r.present = true then [r.addr] else []) ++ (rows.filter CoreRow.present).map CoreRow.addr := by
    cases h : r.present <;> simp [h]
  simp [Config.coreRows, cons, Config.coreIoAddresses]

/-- The first present row at address `n`, if there is one. -/
def findRow (rows : List CoreRow) (n : Nat) : Option CoreRow := (rows.filter CoreRow.present).find? fun r => r.addr == n

theorem findRow_cons (r : CoreRow) (rows : List CoreRow) (n : Nat) :
    findRow (r :: rows) n = if r.present = true ∧ n = r.addr then some r else findRow rows n := by
  cases hp : r.present with
  | false => simp [findRow, hp]
  | true =>
    by_cases hn : n = r.addr
    · simp [findRow, hp, hn]
    · simp [findRow, hp, hn, Ne.symm hn]

/-- At an address that a present row has, the search finds a present row with that address. -/
theorem exists_findRow {rows : List CoreRow} {r : CoreRow} (hr : r ∈ rows.filter CoreRow.present) :
    ∃ q ∈ rows.filter CoreRow.present, findRow rows r.addr = some q ∧ q.addr = r.addr := by
  cases hfind : findRow rows r.addr with
  | none => simpa using List.find?_eq_none.1 hfind r hr
  | some q => exact ⟨q, List.mem_of_find?_eq_some hfind, rfl, by simpa using List.find?_some hfind⟩

/-- The dispatch of R65 is the search of the table, and the device's own locations off it. -/
theorem ioTarget_eq_findRow (c : Config) (a : Fin 64) :
    ioTarget c a = ((findRow (Config.coreRows c) a.val).map CoreRow.target).getD
      (if inSpans c.ioStorage a.val = true then .storage else .device) := by
  unfold Config.coreRows
  simp only [findRow_cons, apply_ite (Option.map CoreRow.target), apply_ite Option.getD, ite_apply]
  simp [ioTarget, findRow]

/-- The addresses being distinct, the register whose address it is answers (R33). -/
theorem ioTarget_of_row {c : Config} (hc : c.wf = true) {a : Fin 64} {r : CoreRow} (hr : r ∈ Config.coreRows c)
    (hp : r.present = true) (ha : a.val = r.addr) : ioTarget c a = r.target := by
  have hnodup : (((Config.coreRows c).filter CoreRow.present).map CoreRow.addr).Nodup := by
    rw [← coreIoAddresses_eq]
    simp only [Config.wf, Bool.and_eq_true, decide_eq_true_eq] at hc
    tauto
  have hmem := List.mem_filter.2 ⟨hr, hp⟩
  obtain ⟨q, hq, hfind, haddr⟩ := exists_findRow hmem
  rw [ioTarget_eq_findRow, ha, hfind, List.inj_on_of_nodup_map hnodup hq hmem haddr]
  rfl

theorem coreRows_target_ne_storage (c : Config) : ∀ r ∈ Config.coreRows c, r.target ≠ .storage := by
  simp [Config.coreRows]

/-- Plain storage answers exactly at the storage addresses no core register has (R65). -/
theorem ioTarget_eq_storage_iff {c : Config} {a : Fin 64} :
    ioTarget c a = .storage ↔ a.val ∉ c.coreIoAddresses ∧ inSpans c.ioStorage a.val = true := by
  by_cases hcore : a.val ∈ c.coreIoAddresses
  · rw [coreIoAddresses_eq] at hcore
    obtain ⟨r, hr, ha⟩ := List.mem_map.1 hcore
    obtain ⟨q, hq, hfind, -⟩ := exists_findRow hr
    have hne := coreRows_target_ne_storage c q (List.mem_filter.1 hq).1
    rw [coreIoAddresses_eq, ioTarget_eq_findRow, ← ha, hfind]
    simpa [ha, hcore] using hne
  · simp [ioTarget_of_not_core hcore, hcore]

/-! ### Reads and writes -/

/-- Settles O23: the table says what answers at a core register's address, the rule of the device locations at any other. -/
theorem ioCoreRegisters : Obligations.IoCoreRegisters := by
  intro s a v hc
  have target := fun r hr hp ha => ioTarget_of_row (a := a) (r := r) hc hr hp ha
  simp only [Config.coreRows, List.forall_mem_cons, decide_eq_true_eq, forall_const] at target
  obtain ⟨hsreg, hspl, hsph, hrampX, hrampY, hrampZ, hrampD, heind, -⟩ := target
  have low : s.sp.setWidth 8 = s.sp.extractLsb' 0 8 := by ext; simp
  have high : (s.sp >>> 8).setWidth 8 = s.sp.extractLsb' 8 8 := by ext; simp
  refine ⟨fun ha => ?_, fun ha => ?_, fun hw ha => ?_, fun hh ha => ?_, fun hh ha => ?_, fun hh ha => ?_, fun hh ha => ?_,
    fun hh ha => ?_, fun hcore hspan => ?_, fun hcore hspan => ?_⟩
  · simp [ioRead, ioWrite, hsreg ha, State.storeSreg]
  · simp [ioRead, ioWrite, hspl ha, State.storeSpl, low, high]
  · simp [ioRead, ioWrite, hsph hw ha, State.storeSph, low, high]
  · simp [ioRead, ioWrite, hrampX hh ha]
  · simp [ioRead, ioWrite, hrampY hh ha]
  · simp [ioRead, ioWrite, hrampZ hh ha]
  · simp [ioRead, ioWrite, hrampD hh ha]
  · simp [ioRead, ioWrite, heind hh ha]
  · have hstorage := ioTarget_eq_storage_iff.2 ⟨hcore, hspan⟩
    refine ⟨by simp [ioWrite, hstorage], ioRead_of_peekIo (by simp [peekIo, hstorage]), fun w hw => ?_, fun hnone => ?_⟩
    · exact ioRead_of_peekIo (by simpa [peekIo, hstorage] using hw)
    · exact ⟨_, ioRead_of_none (by simpa [peekIo, hstorage] using hnone)⟩
  · have hdevice : ioTarget s.cfg a = .device := by simp [ioTarget_of_not_core hcore, hspan]
    exact ⟨by simp [ioWrite, hdevice], _, ioRead_of_none (by simp [peekIo, hdevice])⟩

end Sys2Proof.Machine
end

section
/-! The reset state and the events from outside (spec/10_state.md R47, spec/60_exceptions.md R423, spec/70_reset_and_hazards.md
R440): the pc at reset, and one event taken before the others of a step. -/
namespace Sys2Proof.Machine

/-! ### Reset -/

/-- Settles O52: the invariant of the reset state, part by part, holds on every admissible device. -/
theorem resetIsWf : Obligations.ResetIsWf := ⟨fun _ h => resetState_wf h, resetState_wf (by decide)⟩

/-- The reset address of an admissible device fits the pc (R4, R26). -/
theorem resetState_pc_toNat {c : Config} (h : c.wf = true) : (resetState c).pc.toNat = c.resetAddr := by
  obtain ⟨-, hbits, hflash⟩ := Config.wf_pcBits h
  obtain ⟨-, haddr⟩ := Config.wf_addresses h
  have hpow : 2 ^ c.pcBits ≤ 2 ^ 22 := Nat.pow_le_pow_right (by decide) hbits
  exact Nat.mod_eq_of_lt (by omega)

/-- A step with a reset among its events answers the reset state of the device (R440). -/
theorem step_of_reset {s : State} (h : Input.reset ∈ s.inputs.headD []) :
    step s = .next (State.resetEvent { s with inputs := s.inputs.tail }) := by
  rw [step, beginStep_of_reset h]

/-! ### One event before the others -/

/-- What an event changes does not depend on the events still to come. -/
theorem applyInput_setInputs (s : State) (x : Input) (l : List (List Input)) :
    State.applyInput { s with inputs := l } x = { s.applyInput x with inputs := l } := by
  cases x with
  | request | ioChange | extChange => simp only [State.applyInput]; split <;> rfl
  | withdraw | sleepEnable | reset => rfl

/-- A step takes its first event and goes on with the others (R423). -/
theorem step_cons_event (s : State) {x : Input} {e : List Input} (rest : List (List Input)) (hx : x ≠ .reset)
    (he : Input.reset ∉ e) : step { s with inputs := (x :: e) :: rest } = step { s.applyInput x with inputs := e :: rest } := by
  have hxe : Input.reset ∉ x :: e := by simp [hx.symm, he]
  unfold step
  rw [beginStep_of_no_reset (s := { s with inputs := (x :: e) :: rest }) hxe,
    beginStep_of_no_reset (s := { s.applyInput x with inputs := e :: rest }) he]
  simp only [List.headD_cons, List.tail_cons, List.foldl_cons, applyInput_setInputs]

/-- Settles O51: a reset is the whole step; any other event happens before the rest of the step. -/
theorem outsideEvents : Obligations.OutsideEvents := by
  refine ⟨fun s e rest hs hreset => ?_, fun c hc => ?_, rfl, fun s e rest n on i a v he => ?_⟩
  · rw [step_of_reset (by rw [hs]; exact hreset), hs]
    rfl
  · exact ⟨resetState_pc_toNat hc, rfl, rfl, rfl, rfl, rfl, rfl, rfl, rfl, rfl⟩
  · have first (x : Input) (hx : x ≠ .reset) {t : State} (ht : s.applyInput x = t) :
        step { s with inputs := (x :: e) :: rest } = step { t with inputs := e :: rest } := by
      rw [step_cons_event s rest hx he, ht]
    refine ⟨fun hn => ?_, fun hn => ?_, ?_, ?_, fun hio => ?_, fun hio => ?_, fun hext => ?_, fun hext => ?_⟩
    · exact first (.request n) nofun (by simp [State.applyInput, hn])
    · exact first (.request n) nofun (by simp [State.applyInput, hn])
    · exact first (.withdraw n) nofun rfl
    · exact first (.sleepEnable on) nofun rfl
    · exact first (.ioChange i v) nofun (if_pos (ioTarget_eq_storage_iff.2 hio))
    · exact first (.ioChange i v) nofun (if_neg (mt ioTarget_eq_storage_iff.1 hio))
    · exact first (.extChange a v) nofun (if_pos hext)
    · exact first (.extChange a v) nofun (if_neg hext)

end Sys2Proof.Machine
end

section
/-! What decoding asks of the device (spec/10_state.md R24, spec/30_encoding.md R125, R129): the rows, the unit and the registers of
every instruction that decodes, and the reduced core. -/
namespace Sys2Proof.Machine

/-- An instruction that decodes is on the device: one of its rows is available, where it has any, and its unit is present (R5). -/
theorem offers_iff {c : Config} {i : Instr} :
    c.offers i = true ↔ (i.rows = [] ∨ ∃ r ∈ i.rows, r ∈ c.available) ∧ i.unitPresent c = true := by
  simp [Config.offers, List.any_eq_true]

/-- The device has the registers an instruction names: all of them, or R16 to R31 on a reduced core (R24). -/
theorem hasRegs_iff {c : Config} {i : Instr} :
    c.hasRegs i = true ↔ (c.reducedCore = true → ∀ d ∈ i.namedRegs, 16 ≤ d.val) := by
  cases h : c.reducedCore <;> simp [Config.hasRegs, h, upperReg]

/-- The words 1010 of a reduced core are the 16-bit LDS and STS (R125). -/
theorem decodeRow_reduced_ten {w w2 : Nat} (h : bitsAt w 12 4 = 10) : decodeRow true w w2 = decodeShort w := by
  simp [decodeRow, h]

theorem decodeShort_cases {w : Nat} {i : Instr} (h : decodeShort w = some i) : ∃ d k, i = .lds16 d k ∨ i = .sts16 k d := by
  unfold decodeShort at h
  split at h <;> cases h
  · exact ⟨_, _, .inl rfl⟩
  · exact ⟨_, _, .inr rfl⟩

/-- LDD and STD have a unit on every device but a reduced core, and there with displacement 0 alone (log 34). -/
theorem disp_eq_zero_of_unitPresent {c : Config} (hc : c.reducedCore = true) {i : Instr} (hu : i.unitPresent c = true) {d : Reg}
    {q : Fin 64} (hi : i = .lddY d q ∨ i = .lddZ d q ∨ i = .stdY q d ∨ i = .stdZ q d) : q = 0 := by
  rcases hi with rfl | rfl | rfl | rfl <;> simpa [Instr.unitPresent, hc] using hu

/-- An instruction with a single row decodes only where that row is available. -/
theorem available_of_rows_singleton {c : Config} {i : Instr} {r : OptionalRow}
    (h : i.rows = [] ∨ ∃ r ∈ i.rows, r ∈ c.available) (hr : i.rows = [r]) : r ∈ c.available := by
  simpa [hr] using h

/-- Settles O59: the clauses are what the device must have for its rows, units and registers, and the words 1010. -/
theorem reducedCoreDecoding : Obligations.ReducedCoreDecoding := by
  intro c w w2 i h
  obtain ⟨hrow, hoffers, hregs⟩ := decode_eq_instr.1 h
  obtain ⟨hrows, hunit⟩ := offers_iff.1 hoffers
  refine ⟨fun hc => ⟨hasRegs_iff.1 hregs hc, fun hw => ?_, fun d q => disp_eq_zero_of_unitPresent hc hunit⟩,
    fun d q hq => ?_, fun hc d k => ?_⟩
  · have hten : bitsAt w.toNat 12 4 = 10 := by simp [bitsAt, hw]
    rw [hc, decodeRow_reduced_ten hten] at hrow
    exact decodeShort_cases hrow
  · refine ⟨?_, ?_, ?_, ?_⟩ <;> rintro rfl <;> exact available_of_rows_singleton hrows (if_neg hq)
  · constructor <;> rintro rfl <;> simp [Instr.unitPresent, hc] at hunit

end Sys2Proof.Machine
end

section
/-! The data-space dispatch (spec/20_memory.md R64): the six ranges, what stands at an address of each, and what a one-byte read
and write do there. -/
namespace Sys2Proof.Machine

/-! ### The ranges -/

/-- The Register File's addresses, on a device that maps it (R64, R67). -/
abbrev FileRange (c : Config) (a : Nat) : Prop := c.regfileInData = true ∧ a ≤ 31

/-- The addresses of the I/O space (R64). -/
abbrev IoRange (c : Config) (a : Nat) : Prop := c.ioBase ≤ a ∧ a ≤ c.ioBase + 63

/-- The addresses of the Extended I/O memory (R66). -/
abbrev ExtRange (c : Config) (a : Nat) : Prop := c.extIoFirst ≤ a ∧ a ≤ c.extIoLast

/-- Address `a` of the window is byte `b` of Program memory (R68). -/
abbrev WindowAt (c : Config) (a b : Nat) : Prop := ∃ f, c.flashDataBase = some f ∧ a = f + b ∧ b ≤ 2 * c.flashEnd + 1

/-- The addresses of SRAM (R64). -/
abbrev SramRange (c : Config) (a : Nat) : Prop := c.sramStart ≤ a ∧ a ≤ c.ramEnd

section
variable {c : Config} {a : Nat}

theorem dataPlace_of_file (hfile : FileRange c a) {d : Reg} (ha : a = d.val) : dataPlace c a = .register d := by
  unfold dataPlace
  rw [if_pos hfile, ha]
  simp

theorem dataPlace_of_io (hfile : ¬FileRange c a) {i : Fin 64} (ha : a = c.ioBase + i.val) : dataPlace c a = .io i := by
  unfold dataPlace
  rw [if_neg hfile, if_pos (by omega), ha]
  simp

theorem dataPlace_of_ext (hfile : ¬FileRange c a) (hio : ¬IoRange c a) (hext : ExtRange c a) : dataPlace c a = .extIo := by
  unfold dataPlace
  rw [if_neg hfile, if_neg hio, if_pos hext]

theorem dataPlace_of_window (hfile : ¬FileRange c a) (hio : ¬IoRange c a) (hext : ¬ExtRange c a) {b : Nat}
    (hwin : WindowAt c a b) : dataPlace c a = .flash b := by
  obtain ⟨f, hf, ha, hb⟩ := hwin
  have hin : f ≤ a ∧ a ≤ f + 2 * c.flashEnd + 1 := by omega
  have hoff : a - f = b := by omega
  unfold dataPlace
  rw [if_neg hfile, if_neg hio, if_neg hext]
  simp only [hf, if_pos hin, hoff]

/-- Past the window and the ranges before it, SRAM answers or nothing does. -/
theorem dataPlace_of_no_window (hfile : ¬FileRange c a) (hio : ¬IoRange c a) (hext : ¬ExtRange c a)
    (hwin : ∀ b, ¬WindowAt c a b) :
    dataPlace c a = if SramRange c a then .sram else .nowhere := by
  unfold dataPlace
  rw [if_neg hfile, if_neg hio, if_neg hext]
  split
  · next f hf =>
    have hout : ¬(f ≤ a ∧ a ≤ f + 2 * c.flashEnd + 1) := fun h => hwin (a - f) ⟨f, hf, by omega, by omega⟩
    rw [if_neg hout]
  · rfl

/-- Each register stands at one address. -/
theorem addr_of_dataPlace_register {d : Reg} (h : dataPlace c a = .register d) : a = d.val := by
  unfold dataPlace at h
  repeat' split at h
  all_goals cases h
  next hfile => exact (Nat.mod_eq_of_lt (by omega)).symm

/-- Each I/O location stands at one address. -/
theorem addr_of_dataPlace_io {i : Fin 64} (h : dataPlace c a = .io i) : a = c.ioBase + i.val := by
  unfold dataPlace at h
  repeat' split at h
  all_goals cases h
  next hio => simp only [Fin.val_ofNat]; omega

end

/-! ### Reads and writes -/

/-- Settles O22: the place of the address says what a read and a write do. -/
theorem dataSpaceDispatch : Obligations.DataSpaceDispatch := by
  intro s a v
  refine ⟨fun d hfile ha => ?_, fun i hfile ha => ?_, fun hfile hio hext hspan => ?_, fun hfile hio hext hspan => ?_,
    fun b hfile hio hext hwin => ?_, fun hfile hio hext hwin hsram => ?_, fun hfile hio hext hwin hsram => ?_⟩
  · have hp := dataPlace_of_file hfile ha
    simp [memRead, memWrite, hp, State.setReg]
  · have hp := dataPlace_of_io hfile ha
    simp [memRead, memWrite, hp]
  · have hp := dataPlace_of_ext hfile hio hext
    refine ⟨by simp [memWrite, extWrite, hp, hspan], memRead_of_peek (by simp [peek, hp, hspan]), fun w hw => ?_, fun hnone => ?_⟩
    · exact memRead_of_peek (by simpa [peek, hp, hspan] using hw)
    · exact ⟨_, by rw [memRead_of_none (by simpa [peek, hp, hspan] using hnone), hp]; rfl⟩
  · have hp := dataPlace_of_ext hfile hio hext
    exact ⟨by simp [memWrite, extWrite, hp, hspan], _, by rw [memRead_of_none (by simp [peek, hp, hspan]), hp]; rfl⟩
  · have hp := dataPlace_of_window hfile hio hext hwin
    simp [memRead, memWrite, hp]
  · have hp := dataPlace_of_no_window hfile hio hext hwin
    rw [if_pos hsram] at hp
    refine ⟨fun w hw => memRead_of_peek (by simpa [peek, hp] using hw), fun hnone => ?_, by simp [memWrite, hp]⟩
    rw [memRead_of_none (by simpa [peek, hp] using hnone), hp]
  · have hp := dataPlace_of_no_window hfile hio hext hwin
    rw [if_neg hsram] at hp
    simp [memRead, memWrite, hp]

end Sys2Proof.Machine
end

section
/-! The pointer registers (spec/20_memory.md R73): a register pair as a number and a number put into a pair, then the table of
R73, class by class. -/
namespace Sys2Proof.Machine

/-! ### Pairs as numbers -/

/-- A register pair is the number its two bytes make, low byte in the lower register (R70). -/
theorem pair_toNat (s : State) (d : Reg) : (s.pair d).toNat = s.pairNat d := by
  rw [State.pair, toNat_append_add]
  rfl

/-- A number put into a pair: its low byte, then its next byte. -/
theorem setPair_ofNat (s : State) (d : Reg) (n : Nat) :
    s.setPair d (BitVec.ofNat 16 n) = { s with regs := pairRegs s.regs d n } := by
  have low : (BitVec.ofNat 16 n).setWidth 8 = BitVec.ofNat 8 n := by
    apply BitVec.eq_of_toNat_eq
    simp only [BitVec.toNat_setWidth, BitVec.toNat_ofNat]
    omega
  have high : (BitVec.ofNat 16 n >>> 8).setWidth 8 = BitVec.ofNat 8 (n / 256) := by
    apply BitVec.eq_of_toNat_eq
    simp only [BitVec.toNat_setWidth, BitVec.toNat_ushiftRight, BitVec.toNat_ofNat, Nat.shiftRight_eq_div_pow]
    omega
  rw [State.setPair, low, high]
  rfl

/-! ### The three forms of a pointer -/

section
variable {c : Config} {s : State} {p : Ptr}

/-- The RAMP register counts on an `extended` device that has it. -/
theorem usesRamp_iff : usesRamp c p = true ↔ c.ptrClass = .extended ∧ hasRampOf c p = true := by
  simp [usesRamp]

/-- On a `small` device a pointer is its low register. -/
theorem ptr_of_small (hc : s.cfg.ptrClass = .small) (n : Nat) :
    ptrGet s p = (s.reg p.lo).toNat ∧ ptrWidth s.cfg p = 8
      ∧ ptrSet s p n = { s with regs := s.regs.set p.lo.val (BitVec.ofNat 8 n) } :=
  ⟨if_pos hc, if_pos hc, if_pos hc⟩

/-- With no RAMP register a pointer is its pair. -/
theorem ptr_of_pair (hc : s.cfg.ptrClass ≠ .small) (hr : usesRamp s.cfg p = false) (n : Nat) :
    ptrGet s p = s.pairNat p.lo ∧ ptrWidth s.cfg p = 16 ∧ ptrSet s p n = { s with regs := pairRegs s.regs p.lo n } := by
  simp [ptrGet, ptrWidth, ptrSet, hc, hr, pair_toNat, setPair_ofNat]

/-- With its RAMP register a pointer is that register over its pair. -/
theorem ptr_of_ramp (hr : usesRamp s.cfg p = true) (n : Nat) :
    ptrGet s p = (s.ramp p).toNat * 65536 + s.pairNat p.lo ∧ ptrWidth s.cfg p = 24
      ∧ ptrSet s p n = { s.setRamp p (BitVec.ofNat 8 (n / 65536)) with regs := pairRegs s.regs p.lo n } := by
  have hc : s.cfg.ptrClass ≠ .small := by simp [(usesRamp_iff.1 hr).1]
  have hregs : (s.setRamp p (BitVec.ofNat 8 (n / 65536))).regs = s.regs := by cases p <;> rfl
  simp [ptrGet, ptrWidth, ptrSet, hc, hr, pair_toNat, setPair_ofNat, hregs]

end

/-- Settles O24: the three forms, by class and by RAMP register. -/
theorem pointerTable : Obligations.PointerTable := by
  intro s p n
  have small (hc : s.cfg.ptrClass = .small) := ptr_of_small (p := p) hc n
  have pair (h : s.cfg.ptrClass = .normal ∨ s.cfg.ptrClass = .extended ∧ hasRampOf s.cfg p = false) :=
    ptr_of_pair (s := s) (p := p) (by rcases h with h | ⟨h, -⟩ <;> simp [h])
      (by rcases h with h | ⟨-, h⟩ <;> simp [usesRamp, h]) n
  have ramp (hc : s.cfg.ptrClass = .extended) (hh : hasRampOf s.cfg p = true) :=
    ptr_of_ramp (usesRamp_iff.2 ⟨hc, hh⟩) n
  cases p <;> exact ⟨small, pair, ramp⟩

end Sys2Proof.Machine
end

section
/-! Program memory changes by SPM alone (spec/20_memory.md R81): the relation `KeepsFlash`, one fact per shared ending of an
instruction, then every instruction but SPM, and the step around it. -/
namespace Sys2Proof.Machine

/-- Wherever `r` goes on from `s`, Program memory is as in `s`. -/
def KeepsFlash (s : State) (r : Res State) : Prop := ∀ t, r = .next t → t.flash = s.flash

namespace KeepsFlash

variable {α : Type} {s t : State}

theorem next (h : t.flash = s.flash) : KeepsFlash s (.next t) := by
  intro u hu
  cases hu
  exact h

theorem fault {e : Fault} : KeepsFlash s (.fault e) := fun _ h => nomatch h

theorem andThen {r : Res α} {f : α → Res State} (h : ∀ a, r = .next a → KeepsFlash s (f a)) : KeepsFlash s (r.andThen f) := by
  intro t ht
  obtain ⟨a, ha, hf⟩ := Res.andThen_eq_next.1 ht
  exact h a ha t hf

/-- Whatever `t` comes to counts from `s`, where `t` has the Program memory of `s`. -/
theorem of_same {r : Res State} (h : t.flash = s.flash) (k : KeepsFlash t r) : KeepsFlash s r := fun u hu => (k u hu).trans h

end KeepsFlash

/-! ### The shared endings of the instructions -/

section
variable (s : State)

@[simp] theorem ptrSet_flash (p : Ptr) (n : Nat) : (ptrSet s p n).flash = s.flash := by
  unfold ptrSet
  split
  · rfl
  · split
    · cases p <;> rfl
    · rfl

@[simp] theorem branchIf_flash (cond : Bool) (k : BitVec 7) : (branchIf s cond k).flash = s.flash := by
  cases cond <;> rfl

@[simp] theorem acknowledge_flash (v : VectorEntry) : (s.acknowledge v).flash = s.flash := by
  unfold State.acknowledge
  split <;> rfl

theorem flagWrite_keepsFlash (b : BitNum) (on : Bool) : KeepsFlash s (flagWrite s b on) := by
  unfold flagWrite
  split <;> exact .next rfl

theorem skipIf_keepsFlash (cond : Bool) : KeepsFlash s (skipIf s cond) := by
  unfold skipIf
  split
  · exact .andThen fun _ _ => .next rfl
  · exact .next rfl

theorem callTo_keepsFlash (n target : Nat) : KeepsFlash s (callTo s n target) :=
  .andThen fun _ h => .next (SameControl.pushPc h).flash

theorem ret_keepsFlash : KeepsFlash s (execRet s) := .andThen fun _ h => .next (SameControl.popPc h).flash

theorem returnFromInterrupt_keepsFlash : KeepsFlash s (returnFromInterrupt s) :=
  .andThen fun _ h => .next (SameControl.popPc h).flash

theorem takeInterrupt_keepsFlash (v : VectorEntry) : KeepsFlash s (takeInterrupt s v) :=
  .andThen fun _ h => .next ((acknowledge_flash _ v).trans (SameControl.pushPc h).flash)

theorem loadFrom_keepsFlash (d : Reg) (a n : Nat) : KeepsFlash s (loadFrom s d a n) :=
  .andThen fun _ h => .next (SameControl.memRead h).flash

theorem storeTo_keepsFlash (a : Nat) (v : Byte) (n : Nat) : KeepsFlash s (storeTo s a v n) :=
  .andThen fun _ h => .next (SameControl.memWrite h).flash

theorem loadPostInc_keepsFlash (p : Ptr) (d : Reg) : KeepsFlash s (loadPostInc s p d) := by
  unfold loadPostInc
  split
  · exact .fault
  · exact .andThen fun _ h => .next ((ptrSet_flash _ p _).trans (SameControl.memRead h).flash)

theorem loadPreDec_keepsFlash (p : Ptr) (d : Reg) : KeepsFlash s (loadPreDec s p d) := by
  unfold loadPreDec
  split
  · exact .fault
  · exact .of_same (ptrSet_flash s p _) (loadFrom_keepsFlash _ d _ 1)

theorem storePostInc_keepsFlash (p : Ptr) (r : Reg) : KeepsFlash s (storePostInc s p r) := by
  unfold storePostInc
  split
  · exact .fault
  · split
    · exact .fault
    · exact .andThen fun _ h => .next ((ptrSet_flash _ p _).trans (SameControl.memWrite h).flash)

theorem storePreDec_keepsFlash (p : Ptr) (r : Reg) : KeepsFlash s (storePreDec s p r) := by
  unfold storePreDec
  split
  · exact .fault
  · split
    · exact .fault
    · exact .of_same (ptrSet_flash s p _) (storeTo_keepsFlash _ _ _ 1)

theorem loadProgram_keepsFlash (d : Reg) (b : Nat) : KeepsFlash s (loadProgram s d b) := .andThen fun _ _ => .next rfl

theorem lpmZInc_keepsFlash (d : Reg) : KeepsFlash s (execLpmZInc d s) := by
  unfold execLpmZInc
  split
  · exact .fault
  · exact .andThen fun _ _ => .next rfl

theorem elpmZInc_keepsFlash (d : Reg) : KeepsFlash s (execElpmZInc d s) := by
  unfold execElpmZInc
  split
  · exact .fault
  · exact .andThen fun _ _ => .next rfl

theorem brk_keepsFlash : KeepsFlash s (execBrk s) := by
  unfold execBrk
  split <;> exact .next rfl

theorem sleep_keepsFlash : KeepsFlash s (execSleep s) := by
  unfold execSleep
  split <;> exact .next rfl

end

/-- Every instruction but SPM keeps Program memory. The cases are grouped by how the instruction ends. -/
theorem exec_keepsFlash {i : Instr} (hspm : i ≠ .spm) (hinc : i ≠ .spmZInc) (s : State) : KeepsFlash s (exec i s) := by
  cases i with
  | add | adc | sub | subi | sbc | sbci | and | andi | or | ori | eor | com | neg | sbr | cbr | inc | dec | tst | clr | ser
  | mov | ldi | lsl | lsr | rol | ror | asr | swap | bld => exact .next (State.finish_flash s _ _ _)
  | adiw | sbiw | mul | muls | mulsu | fmul | fmuls | fmulsu | movw => exact .next (State.finishPair_flash s _ _ _)
  | des => exact .next ((State.advance_flash _ 1).trans (State.setBlocks_flash s _ _))
  | cp | cpc | cpi | bst | rjmp | ijmp | eijmp | jmp | sec | clc | sen | cln | sez | clz | sei | cli | ses | cls | sev | clv
  | setT | clt | seh | clh | nop | wdr => exact .next rfl
  | rcall | icall | eicall | call => exact callTo_keepsFlash s _ _
  | ret => exact ret_keepsFlash s
  | reti => exact returnFromInterrupt_keepsFlash s
  | cpse | sbrc | sbrs => exact skipIf_keepsFlash s _
  | sbic | sbis => exact .of_same (SameControl.ioRead s _).flash (skipIf_keepsFlash _ _)
  | brbs | brbc | breq | brne | brcs | brcc | brsh | brlo | brmi | brpl | brge | brlt | brhs | brhc | brts | brtc | brvs
  | brvc | brie | brid => exact .next (branchIf_flash s _ _)
  | lds | lds16 | ldX | ldY | lddY | ldZ | lddZ => exact loadFrom_keepsFlash s _ _ _
  | ldXInc | ldYInc | ldZInc => exact loadPostInc_keepsFlash s _ _
  | ldXDec | ldYDec | ldZDec => exact loadPreDec_keepsFlash s _ _
  | sts | sts16 | stX | stY | stdY | stZ | stdZ => exact storeTo_keepsFlash s _ _ _
  | stXInc | stYInc | stZInc => exact storePostInc_keepsFlash s _ _
  | stXDec | stYDec | stZDec => exact storePreDec_keepsFlash s _ _
  | ioIn => exact .next (SameControl.ioRead s _).flash
  | ioOut => exact .next (SameControl.ioWrite s _ _).flash
  | sbi | cbi => exact .next (SameControl.ioBitWrite s _ _ _).flash
  | push => exact .andThen fun _ h => .next (SameControl.push h).flash
  | pop => exact .andThen fun _ h => .next (SameControl.pop h).flash
  | lpmR0 | lpmZ | elpmR0 | elpmZ => exact loadProgram_keepsFlash s _ _
  | lpmZInc => exact lpmZInc_keepsFlash s _
  | elpmZInc => exact elpmZInc_keepsFlash s _
  | bset | bclr => exact flagWrite_keepsFlash s _ _
  | brk => exact brk_keepsFlash s
  | sleep => exact sleep_keepsFlash s
  | spm => exact absurd rfl hspm
  | spmZInc => exact absurd rfl hinc

/-! ### The step -/

/-- No event from outside changes Program memory; loading it is no event (R423). -/
theorem afterEvents_flash (s : State) : s.afterEvents.flash = s.flash := by
  obtain ⟨⟨_, _, _, _, h⟩, -⟩ := applyInputs_same (s.inputs.headD []) { s with inputs := s.inputs.tail }
  rw [State.afterEvents, h]

/-- Everything the beginning of a step can come to (R11). -/
theorem beginStep_cases (s : State) :
    s.beginStep = .idle (State.resetEvent { s with inputs := s.inputs.tail }) ∨ s.beginStep = .idle s.afterEvents
      ∨ (∃ v, s.beginStep = .interrupt v s.afterEvents) ∨ s.beginStep = .execute { s.afterEvents with inhibit := false } := by
  by_cases hr : Input.reset ∈ s.inputs.headD []
  · exact .inl (beginStep_of_reset hr)
  · rw [beginStep_of_no_reset hr, ← State.afterEvents]
    exact .inr (plan_cases s.afterEvents)

/-- A step that does not run SPM keeps Program memory: a reset event, an interrupt entry, another instruction. -/
theorem step_keepsFlash {s : State}
    (hfetch : ∀ u, s.beginStep = .execute u → fetchInstr u ≠ .next .spm ∧ fetchInstr u ≠ .next .spmZInc) :
    KeepsFlash s (step s) := by
  have events := afterEvents_flash s
  unfold step
  rcases beginStep_cases s with h | h | ⟨v, h⟩ | h
  · rw [h]
    exact .next rfl
  · rw [h]
    exact .next events
  · rw [h]
    exact .of_same events (takeInterrupt_keepsFlash _ v)
  · obtain ⟨hspm, hinc⟩ := hfetch _ h
    rw [h]
    refine .andThen fun i hi => .of_same events (exec_keepsFlash ?_ ?_ _)
    · rintro rfl
      exact hspm hi
    · rintro rfl
      exact hinc hi

/-- Settles O39: no other instruction writes Program memory, and neither does what stands around one. -/
theorem onlySpmWritesProgram : Obligations.OnlySpmWritesProgram :=
  ⟨fun _ s t h hspm hinc => exec_keepsFlash hspm hinc s t h, fun _ t h hfetch => step_keepsFlash hfetch t h⟩

end Sys2Proof.Machine
end

section
/-! The frame of a store (spec/20_memory.md R64, R78): every I/O location and every data address holds a byte of its own, so a write
changes what is read there and nowhere else. -/
namespace Sys2Proof.Machine

/-! ### The I/O space -/

/-- The I/O address of a core register; none for the device's own locations, which answer at many (R33). -/
def IoTarget.coreAddr (c : Config) : IoTarget → Option Nat
  | .sreg => some c.sregIo
  | .spl => some c.splIo
  | .sph => some c.sphIo
  | .rampX => some c.rampXIo
  | .rampY => some c.rampYIo
  | .rampZ => some c.rampZIo
  | .rampD => some c.rampDIo
  | .eind => some c.eindIo
  | .storage | .device => none

/-- A core register answers at its own address only. -/
theorem addr_of_ioTarget {c : Config} {a : Fin 64} {n : Nat} (h : (ioTarget c a).coreAddr c = some n) : a.val = n := by
  unfold ioTarget at h
  repeat' split at h
  all_goals simp_all [IoTarget.coreAddr]

/-- What answers at two addresses is a location of the device's own. -/
theorem coreAddr_eq_none {c : Config} {i j : Fin 64} (hij : j ≠ i) (h : ioTarget c j = ioTarget c i) :
    (ioTarget c i).coreAddr c = none := by
  cases hi : (ioTarget c i).coreAddr c with
  | none => rfl
  | some n => exact absurd (Fin.ext ((addr_of_ioTarget (h ▸ hi)).trans (addr_of_ioTarget hi).symm)) hij

/-- The high byte of a word put together from two. -/
theorem high_append (x y : Byte) : ((x ++ y : Word16) >>> 8).setWidth 8 = x :=
  BitVec.setWidth_ushiftRight_eq_extractLsb.trans BitVec.extractLsb'_append_eq_left

/-- The low byte of a word put together from two. -/
theorem low_append (x y : Byte) : (x ++ y : Word16).setWidth 8 = y := BitVec.setWidth_append_eq_right

section
variable {s t : State}

/-- Writing one of the things that answer in the I/O space leaves the others: each has a field, or a half of SP, of its own. -/
theorem peekIo_ioWrite_of_target_ne {i j : Fin 64} (h : ioTarget s.cfg j ≠ ioTarget s.cfg i) (v : Byte) :
    peekIo (ioWrite s i v) j = peekIo s j := by
  unfold ioWrite
  split
  all_goals
    unfold peekIo
    split <;> simp_all [high_append, low_append]

/-- A write of the I/O space leaves every other location as it was. -/
theorem peekIo_ioWrite_of_ne {i j : Fin 64} (hij : j ≠ i) (v : Byte) : peekIo (ioWrite s i v) j = peekIo s j := by
  by_cases h : ioTarget s.cfg j = ioTarget s.cfg i
  · have hnone := coreAddr_eq_none hij h
    have hval : j.val ≠ i.val := fun e => hij (Fin.ext e)
    cases hi : ioTarget s.cfg i with
    | storage => simp [ioWrite, peekIo, hi, h, hval]
    | device => simp [ioWrite, hi]
    | _ => simp [hi, IoTarget.coreAddr] at hnone
  · exact peekIo_ioWrite_of_target_ne h v

/-- A write of the I/O space changes no register, no SRAM byte and no byte of the Extended I/O memory. -/
theorem ioWrite_elsewhere (s : State) (i : Fin 64) (v : Byte) :
    (ioWrite s i v).regs = s.regs ∧ (ioWrite s i v).sram = s.sram ∧ (ioWrite s i v).extDev = s.extDev := by
  unfold ioWrite
  split <;> exact ⟨rfl, rfl, rfl⟩

/-! ### The data space -/

/-- The byte read at a data address depends on the device, on the registers and Program memory, on that byte of SRAM and of the
Extended I/O memory, and on the I/O location where one stands there. -/
theorem peek_congr {b : Nat} (hcfg : t.cfg = s.cfg) (hregs : t.regs = s.regs) (hflash : t.flash = s.flash)
    (hsram : t.sram.read b = s.sram.read b) (hext : t.extDev.read b = s.extDev.read b)
    (hio : ∀ i, dataPlace s.cfg b = .io i → peekIo t i = peekIo s i) : peek t b = peek s b := by
  unfold peek
  rw [hcfg]
  cases hp : dataPlace s.cfg b with
  | register d => simp only [State.reg_congr hregs]
  | io i => exact hio i hp
  | extIo => simp only [hext]
  | flash a => simp only [hflash]
  | sram => exact hsram
  | nowhere => rfl

theorem peek_setReg_of_ne {d : Reg} {b : Nat} (h : b ≠ d.val) (v : Byte) : peek (s.setReg d v) b = peek s b := by
  unfold peek
  rw [State.setReg_cfg]
  cases hp : dataPlace s.cfg b with
  | register e =>
    have he : e ≠ d := fun e' => h (e' ▸ addr_of_dataPlace_register hp)
    simp only [State.reg_setReg_of_ne s v he]
  | _ => rfl

/-- A write that goes on leaves the byte at every other address (R64). -/
theorem peek_memWrite_of_ne {a b : Nat} {v : Byte} (h : memWrite s a v = .next t) (hab : b ≠ a) : peek t b = peek s b := by
  rcases memWrite_cases h with ⟨d, hp, rfl⟩ | ⟨i, hp, rfl⟩ | ⟨-, rfl⟩ | ⟨-, rfl⟩
  · exact peek_setReg_of_ne (addr_of_dataPlace_register hp ▸ hab) v
  · have same := SameControl.ioWrite s i v
    obtain ⟨hregs, hsram, hext⟩ := ioWrite_elsewhere s i v
    refine peek_congr same.cfg hregs same.flash (by rw [hsram]) (by rw [hext]) fun j hj => peekIo_ioWrite_of_ne ?_ v
    rintro rfl
    exact hab ((addr_of_dataPlace_io hj).trans (addr_of_dataPlace_io hp).symm)
  · unfold extWrite
    split
    · exact peek_congr rfl rfl rfl rfl (Memory.read_write_other _ v hab) fun _ _ => rfl
    · rfl
  · exact peek_congr rfl rfl rfl (Memory.read_write_other _ v hab) rfl fun _ _ => rfl

/-- In the Register File and in SRAM a write that goes on is read back (R78). -/
theorem peek_memWrite_self {a : Nat} {v : Byte} (h : memWrite s a v = .next t)
    (hp : (∃ d, dataPlace s.cfg a = .register d) ∨ dataPlace s.cfg a = .sram) : peek t a = some v := by
  rcases hp with ⟨d, hp⟩ | hp
  · have ht : s.setReg d v = t := by simpa [memWrite, hp] using h
    simp [← ht, peek, hp]
  · have ht : { s with sram := s.sram.write a v } = t := by simpa [memWrite, hp] using h
    simp [← ht, peek, hp]

/-- A change of SP leaves every byte but those of SP's own locations. -/
theorem peek_setSp {b : Nat} (x : BitVec 16)
    (h : ∀ j, dataPlace s.cfg b = .io j → ioTarget s.cfg j ≠ .spl ∧ ioTarget s.cfg j ≠ .sph) :
    peek { s with sp := x } b = peek s b := by
  refine peek_congr rfl rfl rfl rfl rfl fun j hj => ?_
  obtain ⟨hl, hh⟩ := h j hj
  unfold peekIo
  split <;> simp_all

/-! ### The instructions -/

theorem peek_advance (s : State) (n b : Nat) : peek (s.advance n) b = peek s b := rfl

theorem storeTo_frame {a b n : Nat} {v : Byte} (h : storeTo s a v n = .next t) (hab : b ≠ a) : peek t b = peek s b := by
  obtain ⟨u, hu, ht⟩ := Res.andThen_eq_next.1 h
  cases ht
  exact (peek_advance u n b).trans (peek_memWrite_of_ne hu hab)

theorem push_frame {b : Nat} {v : Byte} (h : push s v = .next t) (hb : b ≠ s.sp.toNat)
    (hsp : ∀ j, dataPlace s.cfg b = .io j → ioTarget s.cfg j ≠ .spl ∧ ioTarget s.cfg j ≠ .sph) : peek t b = peek s b := by
  obtain ⟨u, hu, rfl⟩ := push_eq_next.1 h
  have hcfg := (SameControl.memWrite hu).cfg
  rw [peek_setSp _ (by rwa [hcfg]), peek_memWrite_of_ne hu hb]

end

/-- Settles O31: each of the instructions is a store at its address or a push. -/
theorem storeFrame : Obligations.StoreFrame := by
  refine ⟨fun s t a v h => ⟨fun b => peek_memWrite_of_ne h, peek_memWrite_self h⟩, fun s t r k f q i a hmem h b hb hsp => ?_⟩
  have stores : (∃ n, exec i s = storeTo s a (s.reg r) n) ∨ i = .push r ∧ a = s.sp.toNat := by
    simp only [List.mem_cons, Prod.mk.injEq, List.not_mem_nil, or_false] at hmem
    rcases hmem with ⟨rfl, rfl⟩ | ⟨rfl, rfl⟩ | ⟨rfl, rfl⟩ | ⟨rfl, rfl⟩ | ⟨rfl, rfl⟩ | ⟨rfl, rfl⟩ | ⟨rfl, rfl⟩ | hpush
    · exact .inl ⟨2, rfl⟩
    iterate 6 exact .inl ⟨1, rfl⟩
    exact .inr hpush
  rcases stores with ⟨n, hn⟩ | ⟨rfl, rfl⟩
  · exact storeTo_frame (hn ▸ h) hb
  · obtain ⟨u, hu, ht⟩ := Res.andThen_eq_next.1 h
    cases ht
    exact (peek_advance u 1 b).trans (push_frame hu hb (hsp rfl))

end Sys2Proof.Machine
end

section
/-! The opcode boxes as numbers (spec/30_encoding.md R102 to R121): a box is a list of fields, a word has a box's value exactly when
it reads the box's fields, and so for each format a word is the encoder's exactly when its fields are the operands. -/
namespace Sys2Proof.Machine

/-! ### Boxes -/

theorem bitsAt_lt (w lo len : Nat) : bitsAt w lo len < 2 ^ len := Nat.mod_lt _ (Nat.two_pow_pos len)

/-- The number that a box writes: its fields as (width, value), the lowest first. -/
def boxValue : List (Nat × Nat) → Nat
  | [] => 0
  | (n, v) :: b => boxValue b * 2 ^ n + v

/-- From bit `lo` up, `w` holds the fields of a box and nothing above them. -/
def ReadsBox (w lo : Nat) : List (Nat × Nat) → Prop
  | [] => w / 2 ^ lo = 0
  | (n, v) :: b => bitsAt w lo n = v ∧ ReadsBox w (lo + n) b

/-- A number is a box's exactly when it holds its fields, each value fitting its width. -/
theorem boxValue_eq_iff {w lo : Nat} {b : List (Nat × Nat)} (hfit : ∀ f ∈ b, f.2 < 2 ^ f.1) :
    boxValue b = w / 2 ^ lo ↔ ReadsBox w lo b := by
  induction b generalizing lo with
  | nil => exact eq_comm
  | cons f b ih =>
    obtain ⟨n, v⟩ := f
    have hv : v < 2 ^ n := hfit (n, v) (by simp)
    rw [ReadsBox, ← ih fun f hf => hfit f (by simp [hf]), boxValue, bitsAt, pow_add, ← Nat.div_div_eq_div_mul, and_comm,
      eq_comm (a := boxValue b), Nat.div_mod_unique (Nat.two_pow_pos n), and_iff_left hv, Nat.add_comm, Nat.mul_comm]

/-- An encoding that writes a box is a word exactly when the word holds the fields of the box. -/
theorem encoding_eq_iff (b : List (Nat × Nat)) {n w : Nat} (hbox : n = boxValue b) (hfit : ∀ f ∈ b, f.2 < 2 ^ f.1) :
    n = w ↔ ReadsBox w 0 b := by
  rw [hbox, ← boxValue_eq_iff hfit, pow_zero, Nat.div_one]

/-! ### The operand fields (R124) -/

section
variable {w : Nat}

theorem fieldReg_eq_iff {d : Reg} : fieldReg w = d ↔ bitsAt w 4 5 = d.val := by
  have := bitsAt_lt w 4 5
  simp only [Fin.ext_iff, fieldReg, Fin.val_ofNat]
  omega

theorem fieldRegR_eq_iff {r : Reg} : fieldRegR w = r ↔ bitsAt w 9 1 = r.val / 16 ∧ bitsAt w 0 4 = r.val % 16 := by
  have := bitsAt_lt w 9 1
  have := bitsAt_lt w 0 4
  simp only [Fin.ext_iff, fieldRegR, Fin.val_ofNat]
  omega

theorem fieldUpper_eq_iff {d : Reg} (h : upperReg d = true) : fieldUpper w = d ↔ bitsAt w 4 4 = d.val - 16 := by
  have := bitsAt_lt w 4 4
  simp only [upperReg, decide_eq_true_eq] at h
  simp only [Fin.ext_iff, fieldUpper, Fin.val_ofNat]
  omega

theorem fieldUpperR_eq_iff {r : Reg} (h : upperReg r = true) : fieldUpperR w = r ↔ bitsAt w 0 4 = r.val - 16 := by
  have := bitsAt_lt w 0 4
  simp only [upperReg, decide_eq_true_eq] at h
  simp only [Fin.ext_iff, fieldUpperR, Fin.val_ofNat]
  omega

theorem fieldImm_eq_iff {k : BitVec 8} : fieldImm w = k ↔ bitsAt w 8 4 = k.toNat / 16 ∧ bitsAt w 0 4 = k.toNat % 16 := by
  have := bitsAt_lt w 8 4
  have := bitsAt_lt w 0 4
  simp only [BitVec.toNat_eq, fieldImm, BitVec.toNat_ofNat]
  omega

theorem fieldDisp_eq_iff {q : Fin 64} :
    fieldDisp w = q ↔ bitsAt w 13 1 = q.val / 32 ∧ bitsAt w 10 2 = q.val / 8 % 4 ∧ bitsAt w 0 3 = q.val % 8 := by
  have := bitsAt_lt w 13 1
  have := bitsAt_lt w 10 2
  have := bitsAt_lt w 0 3
  simp only [Fin.ext_iff, fieldDisp, Fin.val_ofNat]
  omega

theorem fieldIo_eq_iff {a : Fin 64} : fieldIo w = a ↔ bitsAt w 9 2 = a.val / 16 ∧ bitsAt w 0 4 = a.val % 16 := by
  have := bitsAt_lt w 9 2
  have := bitsAt_lt w 0 4
  simp only [Fin.ext_iff, fieldIo, Fin.val_ofNat]
  omega

theorem fieldIoLow_eq_iff {a : Fin 32} : fieldIoLow w = a ↔ bitsAt w 3 5 = a.val := by
  have := bitsAt_lt w 3 5
  simp only [Fin.ext_iff, fieldIoLow, Fin.val_ofNat]
  omega

theorem fieldBit_eq_iff {b : BitNum} : fieldBit w = b ↔ bitsAt w 0 3 = b.val := by
  have := bitsAt_lt w 0 3
  simp only [Fin.ext_iff, fieldBit, Fin.val_ofNat]
  omega

theorem fieldWordReg_eq_iff {d : Reg} (h : wordReg d = true) : fieldWordReg w = d ↔ bitsAt w 4 2 = (d.val - 24) / 2 := by
  have := bitsAt_lt w 4 2
  simp only [wordReg, Bool.and_eq_true, decide_eq_true_eq] at h
  simp only [Fin.ext_iff, fieldWordReg, Fin.val_ofNat]
  omega

theorem fieldWordImm_eq_iff {k : Fin 64} : fieldWordImm w = k ↔ bitsAt w 6 2 = k.val / 16 ∧ bitsAt w 0 4 = k.val % 16 := by
  have := bitsAt_lt w 6 2
  have := bitsAt_lt w 0 4
  simp only [Fin.ext_iff, fieldWordImm, Fin.val_ofNat]
  omega

theorem fieldBranch_eq_iff {k : BitVec 7} : fieldBranch w = k ↔ bitsAt w 3 7 = k.toNat := by
  have := bitsAt_lt w 3 7
  simp only [BitVec.toNat_eq, fieldBranch, BitVec.toNat_ofNat]
  omega

theorem fieldShortAddr_eq_iff {k : BitVec 7} :
    fieldShortAddr w = k ↔ bitsAt w 8 3 = k.toNat / 16 ∧ bitsAt w 0 4 = k.toNat % 16 := by
  have := bitsAt_lt w 8 3
  have := bitsAt_lt w 0 4
  simp only [BitVec.toNat_eq, fieldShortAddr, BitVec.toNat_ofNat]
  omega

theorem fieldAbs_eq_iff {w2 : Nat} (hw2 : w2 < 65536) {k : BitVec 22} :
    fieldAbs w w2 = k ↔ bitsAt w 4 5 = k.toNat / 131072 ∧ bitsAt w 0 1 = k.toNat / 65536 % 2
      ∧ k.setWidth 16 = BitVec.ofNat 16 w2 := by
  have := bitsAt_lt w 4 5
  have := bitsAt_lt w 0 1
  simp only [BitVec.toNat_eq, fieldAbs, BitVec.toNat_ofNat, BitVec.toNat_setWidth]
  omega

theorem ofNat_twelve_eq_iff {k : BitVec 12} : BitVec.ofNat 12 w = k ↔ bitsAt w 0 12 = k.toNat := by
  simp [BitVec.toNat_eq, bitsAt]

theorem sregBit_eq_iff {b : BitNum} : Fin.ofNat 8 (bitsAt w 4 3) = b ↔ bitsAt w 4 3 = b.val := by
  have := bitsAt_lt w 4 3
  simp only [Fin.ext_iff, Fin.val_ofNat]
  omega

theorem desRound_eq_iff {k : Fin 16} : Fin.ofNat 16 (bitsAt w 4 4) = k ↔ bitsAt w 4 4 = k.val := by
  have := bitsAt_lt w 4 4
  simp only [Fin.ext_iff, Fin.val_ofNat]
  omega

/-- The register of a field that counts pairs (R117). -/
theorem evenReg_eq_iff {lo : Nat} {d : Reg} (h : evenReg d = true) :
    Fin.ofNat 32 (2 * bitsAt w lo 4) = d ↔ bitsAt w lo 4 = d.val / 2 := by
  have := bitsAt_lt w lo 4
  simp only [evenReg, decide_eq_true_eq] at h
  simp only [Fin.ext_iff, Fin.val_ofNat]
  omega

theorem mulReg_iff {d : Reg} : mulReg d = true ↔ 16 ≤ d.val ∧ d.val ≤ 23 := by simp [mulReg]

/-- The register of a three-bit field (R119). -/
theorem mulReg_eq_iff {lo : Nat} {d : Reg} (h : mulReg d = true) :
    Fin.ofNat 32 (16 + bitsAt w lo 3) = d ↔ bitsAt w lo 3 = d.val - 16 := by
  have := bitsAt_lt w lo 3
  rw [mulReg_iff] at h
  simp only [Fin.ext_iff, Fin.val_ofNat]
  omega

end

/-! ### The formats (R102 to R121) -/

section
variable {w : Nat} (hw : w < 65536)
include hw

theorem encRR_eq_iff {op : Nat} (hop : op < 64) {d r : Reg} :
    encRR op d r = w ↔ bitsAt w 10 6 = op ∧ fieldReg w = d ∧ fieldRegR w = r := by
  rw [encoding_eq_iff [(4, r.val % 16), (5, d.val), (1, r.val / 16), (6, op)]
    (by simp only [encRR, boxValue]; omega) (by simp; omega), fieldReg_eq_iff, fieldRegR_eq_iff]
  simp [ReadsBox, hw, and_assoc, and_comm, and_left_comm]

theorem encRI_eq_iff {op : Nat} (hop : op < 16) {d : Reg} (hd : upperReg d = true) {k : BitVec 8} :
    encRI op d k = w ↔ bitsAt w 12 4 = op ∧ fieldUpper w = d ∧ fieldImm w = k := by
  rw [encoding_eq_iff [(4, k.toNat % 16), (4, d.val - 16), (4, k.toNat / 16), (4, op)]
    (by simp only [encRI, boxValue]; omega) (by simp; omega), fieldUpper_eq_iff hd, fieldImm_eq_iff]
  simp [ReadsBox, hw, and_assoc, and_comm, and_left_comm]

theorem encR1_eq_iff {op : Nat} (hop : op < 16) {d : Reg} :
    encR1 op d = w ↔ bitsAt w 9 7 = 0x4A ∧ bitsAt w 0 4 = op ∧ fieldReg w = d := by
  rw [encoding_eq_iff [(4, op), (5, d.val), (7, 0x4A)]
    (by simp only [encR1, boxValue]; omega) (by simp; omega), fieldReg_eq_iff]
  simp [ReadsBox, hw, and_assoc, and_comm]

theorem encLdSt_eq_iff {s m : Nat} (hs : s < 2) (hm : m < 16) {d : Reg} :
    encLdSt s m d = w ↔ bitsAt w 9 7 = 0x48 + s ∧ bitsAt w 0 4 = m ∧ fieldReg w = d := by
  rw [encoding_eq_iff [(4, m), (5, d.val), (7, 0x48 + s)]
    (by simp only [encLdSt, boxValue]; omega) (by simp; omega), fieldReg_eq_iff]
  simp [ReadsBox, hw, and_assoc, and_comm]

theorem encDisp_eq_iff {s y : Nat} (hs : s < 2) (hy : y < 2) {d : Reg} {q : Fin 64} :
    encDisp s y d q = w ↔ bitsAt w 14 2 = 2 ∧ bitsAt w 12 1 = 0 ∧ bitsAt w 9 1 = s ∧ bitsAt w 3 1 = y
      ∧ fieldReg w = d ∧ fieldDisp w = q := by
  rw [encoding_eq_iff [(3, q.val % 8), (1, y), (5, d.val), (1, s), (2, q.val / 8 % 4), (1, 0), (1, q.val / 32), (2, 2)]
    (by simp only [encDisp, boxValue]; omega) (by simp; omega), fieldReg_eq_iff, fieldDisp_eq_iff]
  simp [ReadsBox, hw, and_assoc, and_comm, and_left_comm]

theorem encShort_eq_iff {s : Nat} (hs : s < 2) {d : Reg} (hd : upperReg d = true) {k : BitVec 7} :
    encShort s d k = w ↔ bitsAt w 12 4 = 10 ∧ bitsAt w 11 1 = s ∧ fieldUpper w = d ∧ fieldShortAddr w = k := by
  rw [encoding_eq_iff [(4, k.toNat % 16), (4, d.val - 16), (3, k.toNat / 16), (1, s), (4, 10)]
    (by simp only [encShort, boxValue]; omega) (by simp; omega), fieldUpper_eq_iff hd, fieldShortAddr_eq_iff]
  simp [ReadsBox, hw, and_assoc, and_comm, and_left_comm]

theorem encIW_eq_iff {o : Nat} (ho : o < 2) {d : Reg} (hd : wordReg d = true) {k : Fin 64} :
    encIW o d k = w ↔ bitsAt w 12 4 = 9 ∧ bitsAt w 8 4 = 6 + o ∧ fieldWordReg w = d ∧ fieldWordImm w = k := by
  rw [encoding_eq_iff [(4, k.val % 16), (2, (d.val - 24) / 2), (2, k.val / 16), (4, 6 + o), (4, 9)]
    (by simp only [encIW, boxValue]; omega) (by simp; omega), fieldWordReg_eq_iff hd, fieldWordImm_eq_iff]
  simp [ReadsBox, hw, and_assoc, and_comm, and_left_comm]

theorem encIO_eq_iff {s : Nat} (hs : s < 2) {d : Reg} {a : Fin 64} :
    encIO s d a = w ↔ bitsAt w 12 4 = 11 ∧ bitsAt w 11 1 = s ∧ fieldReg w = d ∧ fieldIo w = a := by
  rw [encoding_eq_iff [(4, a.val % 16), (5, d.val), (2, a.val / 16), (1, s), (4, 11)]
    (by simp only [encIO, boxValue]; omega) (by simp; omega), fieldReg_eq_iff, fieldIo_eq_iff]
  simp [ReadsBox, hw, and_assoc, and_comm, and_left_comm]

theorem encIoBit_eq_iff {o : Nat} (ho : o < 4) {a : Fin 32} {b : BitNum} :
    encIoBit o a b = w ↔ bitsAt w 12 4 = 9 ∧ bitsAt w 8 4 = 8 + o ∧ fieldIoLow w = a ∧ fieldBit w = b := by
  rw [encoding_eq_iff [(3, b.val), (5, a.val), (4, 8 + o), (4, 9)]
    (by simp only [encIoBit, boxValue]; omega) (by simp; omega), fieldIoLow_eq_iff, fieldBit_eq_iff]
  simp [ReadsBox, hw, and_assoc, and_comm]

theorem encRel_eq_iff {o : Nat} (ho : o < 2) {k : BitVec 12} :
    0xC000 + o * 4096 + k.toNat = w ↔ bitsAt w 12 4 = 12 + o ∧ BitVec.ofNat 12 w = k := by
  rw [encoding_eq_iff [(12, k.toNat), (4, 12 + o)]
    (by simp only [boxValue]; omega) (by simp; omega), ofNat_twelve_eq_iff]
  simp [ReadsBox, hw, and_comm]

theorem encBr_eq_iff {o : Nat} (ho : o < 2) {b : BitNum} {k : BitVec 7} :
    encBr o b k = w ↔ bitsAt w 12 4 = 15 ∧ bitsAt w 11 1 = 0 ∧ bitsAt w 10 1 = o
      ∧ fieldBit w = b ∧ fieldBranch w = k := by
  rw [encoding_eq_iff [(3, b.val), (7, k.toNat), (1, o), (1, 0), (4, 15)]
    (by simp only [encBr, boxValue]; omega) (by simp; omega), fieldBit_eq_iff, fieldBranch_eq_iff]
  simp [ReadsBox, hw, and_assoc, and_comm]

theorem encRBit_eq_iff {o : Nat} (ho : o < 4) {d : Reg} {b : BitNum} :
    encRBit o d b = w ↔ bitsAt w 12 4 = 15 ∧ bitsAt w 11 1 = 1 ∧ bitsAt w 9 2 = o ∧ bitsAt w 3 1 = 0
      ∧ fieldReg w = d ∧ fieldBit w = b := by
  rw [encoding_eq_iff [(3, b.val), (1, 0), (5, d.val), (2, o), (1, 1), (4, 15)]
    (by simp only [encRBit, boxValue]; omega) (by simp; omega), fieldReg_eq_iff, fieldBit_eq_iff]
  simp [ReadsBox, hw, and_assoc, and_comm, and_left_comm]

theorem encSreg_eq_iff {o : Nat} (ho : o < 2) {b : BitNum} :
    encSreg o b = w ↔ bitsAt w 9 7 = 0x4A ∧ bitsAt w 8 1 = 0 ∧ bitsAt w 7 1 = o ∧ bitsAt w 0 4 = 8
      ∧ Fin.ofNat 8 (bitsAt w 4 3) = b := by
  rw [encoding_eq_iff [(4, 8), (3, b.val), (1, o), (1, 0), (7, 0x4A)]
    (by simp only [encSreg, boxValue]; omega) (by simp; omega), sregBit_eq_iff]
  simp [ReadsBox, hw, and_assoc, and_comm]

theorem encAbs_eq_iff {o w2 : Nat} (ho : o < 2) (hw2 : w2 < 65536) {k : BitVec 22} :
    encAbs o k = w ∧ k.setWidth 16 = BitVec.ofNat 16 w2 ↔ bitsAt w 9 7 = 0x4A ∧ bitsAt w 2 2 = 3 ∧ bitsAt w 1 1 = o
      ∧ fieldAbs w w2 = k := by
  rw [encoding_eq_iff [(1, k.toNat / 65536 % 2), (1, o), (2, 3), (5, k.toNat / 131072), (7, 0x4A)]
    (by simp only [encAbs, boxValue]; omega) (by simp; omega), fieldAbs_eq_iff hw2]
  simp [ReadsBox, hw, and_assoc, and_comm, and_left_comm]

theorem encMovw_eq_iff {d r : Reg} (hd : evenReg d = true) (hr : evenReg r = true) :
    0x0100 + d.val / 2 * 16 + r.val / 2 = w ↔ bitsAt w 10 6 = 0 ∧ bitsAt w 8 2 = 1
      ∧ Fin.ofNat 32 (2 * bitsAt w 4 4) = d ∧ Fin.ofNat 32 (2 * bitsAt w 0 4) = r := by
  rw [encoding_eq_iff [(4, r.val / 2), (4, d.val / 2), (2, 1), (6, 0)]
    (by simp only [boxValue]; omega) (by simp; omega), evenReg_eq_iff hd, evenReg_eq_iff hr]
  simp [ReadsBox, hw, and_assoc, and_comm]

theorem encMuls_eq_iff {d r : Reg} (hd : upperReg d = true) (hr : upperReg r = true) :
    0x0200 + (d.val - 16) * 16 + (r.val - 16) = w ↔ bitsAt w 10 6 = 0 ∧ bitsAt w 8 2 = 2
      ∧ fieldUpper w = d ∧ fieldUpperR w = r := by
  rw [encoding_eq_iff [(4, r.val - 16), (4, d.val - 16), (2, 2), (6, 0)]
    (by simp only [boxValue]; omega) (by simp; omega), fieldUpper_eq_iff hd, fieldUpperR_eq_iff hr]
  simp [ReadsBox, hw, and_assoc, and_comm]

theorem encMul3_eq_iff {o7 o3 : Nat} (ho7 : o7 < 2) (ho3 : o3 < 2) {d r : Reg} (hd : mulReg d = true) (hr : mulReg r = true) :
    encMul3 o7 o3 d r = w ↔ bitsAt w 10 6 = 0 ∧ bitsAt w 8 2 = 3 ∧ bitsAt w 7 1 = o7 ∧ bitsAt w 3 1 = o3
      ∧ Fin.ofNat 32 (16 + bitsAt w 4 3) = d ∧ Fin.ofNat 32 (16 + bitsAt w 0 3) = r := by
  obtain ⟨hd16, hd23⟩ := mulReg_iff.1 hd
  obtain ⟨hr16, hr23⟩ := mulReg_iff.1 hr
  rw [encoding_eq_iff [(3, r.val - 16), (1, o3), (3, d.val - 16), (1, o7), (2, 3), (6, 0)]
    (by simp only [encMul3, boxValue]; omega) (by simp; omega), mulReg_eq_iff hd, mulReg_eq_iff hr]
  simp [ReadsBox, hw, and_assoc, and_comm, and_left_comm]

theorem encDes_eq_iff {k : Fin 16} :
    0x940B + k.val * 16 = w ↔ bitsAt w 9 7 = 0x4A ∧ bitsAt w 8 1 = 0 ∧ bitsAt w 0 4 = 11
      ∧ Fin.ofNat 16 (bitsAt w 4 4) = k := by
  rw [encoding_eq_iff [(4, 11), (4, k.val), (1, 0), (7, 0x4A)]
    (by simp only [boxValue]; omega) (by simp), desRound_eq_iff]
  simp [ReadsBox, hw, and_assoc, and_comm]

end

end Sys2Proof.Machine
end

section
/-! The words of what decodes (spec/30_encoding.md R122, R123): each part of the opcode map gives core instructions whose encoding
is the word decoded. -/
namespace Sys2Proof.Machine

/-- `i` is a well-formed core instruction whose first word is `w`, and whose second word, if it has one, is `w2`. -/
structure HasWords (w w2 : Nat) (i : Instr) : Prop where
  wf : i.wf = true
  core : i.canonical = i
  first : encodeFirst i = w
  second : (encodeSecond i).getD (BitVec.ofNat 16 w2) = BitVec.ofNat 16 w2

/-- What the words `w` and `w2` decode to has these words. -/
def Faithful (w w2 : Nat) (r : Option Instr) : Prop := ∀ i, r = some i → HasWords w w2 i

namespace Faithful
variable {w w2 : Nat}

theorem none : Faithful w w2 none := nofun

theorem some {i : Instr} (h : HasWords w w2 i) : Faithful w w2 (some i) := by
  rintro _ ⟨⟩
  exact h

/-- An instruction of one word needs its first word only. -/
theorem oneWord {i : Instr} (hwf : i.wf = true) (hcore : i.canonical = i) (hsecond : encodeSecond i = Option.none)
    (hfirst : encodeFirst i = w) : Faithful w w2 (Option.some i) :=
  .some ⟨hwf, hcore, hfirst, by rw [hsecond]; rfl⟩

/-- A branch of the opcode map. -/
theorem ite {c : Prop} [Decidable c] {a b : Option Instr} (ha : c → Faithful w w2 a) (hb : ¬c → Faithful w w2 b) :
    Faithful w w2 (if c then a else b) :=
  iteInduction ha hb

end Faithful

/-! ### Every field names a register its format can hold -/

theorem upperReg_fieldUpper (w : Nat) : upperReg (fieldUpper w) = true := by
  have := bitsAt_lt w 4 4
  rw [upperReg, decide_eq_true_eq, fieldUpper, Fin.val_ofNat]
  omega

theorem upperReg_fieldUpperR (w : Nat) : upperReg (fieldUpperR w) = true := by
  have := bitsAt_lt w 0 4
  rw [upperReg, decide_eq_true_eq, fieldUpperR, Fin.val_ofNat]
  omega

theorem wordReg_fieldWordReg (w : Nat) : wordReg (fieldWordReg w) = true := by
  have := bitsAt_lt w 4 2
  rw [wordReg, Bool.and_eq_true, decide_eq_true_eq, decide_eq_true_eq, fieldWordReg, Fin.val_ofNat]
  omega

theorem evenReg_ofNat (n : Nat) : evenReg (Fin.ofNat 32 (2 * n)) = true := by
  rw [evenReg, decide_eq_true_eq, Fin.val_ofNat]
  omega

theorem mulReg_ofNat (w lo : Nat) : mulReg (Fin.ofNat 32 (16 + bitsAt w lo 3)) = true := by
  have := bitsAt_lt w lo 3
  rw [mulReg_iff, Fin.val_ofNat]
  omega

/-! ### The opcode map -/

section
variable {w w2 : Nat} (hw : w < 65536)
include hw

theorem decodeLow_faithful (h : bitsAt w 10 6 = 0) : Faithful w w2 (decodeLow w) := by
  have h8 := bitsAt_lt w 8 2
  have h7 := bitsAt_lt w 7 1
  have h3 := bitsAt_lt w 3 1
  refine .ite (fun _ => .ite (fun hnop => .oneWord rfl rfl rfl hnop.symm) fun _ => .none) fun _ => ?_
  refine .ite (fun hmovw => ?_) fun _ => .ite (fun hmuls => ?_) fun _ => ?_
  · have hd := evenReg_ofNat (bitsAt w 4 4)
    have hr := evenReg_ofNat (bitsAt w 0 4)
    exact .oneWord (Bool.and_eq_true_iff.2 ⟨hd, hr⟩) rfl rfl ((encMovw_eq_iff hw hd hr).2 ⟨h, hmovw, rfl, rfl⟩)
  · have hd := upperReg_fieldUpper w
    have hr := upperReg_fieldUpperR w
    exact .oneWord (Bool.and_eq_true_iff.2 ⟨hd, hr⟩) rfl rfl ((encMuls_eq_iff hw hd hr).2 ⟨h, hmuls, rfl, rfl⟩)
  · have hd := mulReg_ofNat w 4
    have hr := mulReg_ofNat w 0
    have hwf := Bool.and_eq_true_iff.2 ⟨hd, hr⟩
    have word {o7 o3 : Nat} (ho7 : o7 < 2) (ho3 : o3 < 2) (hb7 : bitsAt w 7 1 = o7) (hb3 : bitsAt w 3 1 = o3) :=
      (encMul3_eq_iff hw ho7 ho3 hd hr).2 ⟨h, by omega, hb7, hb3, rfl, rfl⟩
    refine .ite (fun h7 => .ite (fun h3 => ?_) fun h3 => ?_) fun h7 => .ite (fun h3 => ?_) fun h3 => ?_
    all_goals exact .oneWord hwf rfl rfl (word (by decide) (by decide) (by omega) (by omega))

theorem decodeTwoReg_faithful (h : bitsAt w 12 4 ≤ 2) : Faithful w w2 (decodeTwoReg w) := by
  have hop : bitsAt w 10 6 = bitsAt w 10 4 ∧ bitsAt w 10 4 < 12 := by
    unfold bitsAt at *
    omega
  refine .ite (fun _ => decodeLow_faithful hw (by omega)) fun _ => ?_
  iterate 10
    refine .ite (fun _ => .oneWord rfl rfl rfl ((encRR_eq_iff hw (by decide)).2 ⟨by omega, rfl, rfl⟩)) fun _ => ?_
  exact .oneWord rfl rfl rfl ((encRR_eq_iff hw (by decide)).2 ⟨by omega, rfl, rfl⟩)

theorem decodeImm_faithful (h : bitsAt w 12 4 ∈ [3, 4, 5, 6, 7, 14]) : Faithful w w2 (decodeImm w) := by
  have hd := upperReg_fieldUpper w
  simp only [List.mem_cons, List.not_mem_nil, or_false] at h
  iterate 5
    refine .ite (fun hop => .oneWord hd rfl rfl ((encRI_eq_iff hw (by decide) hd).2 ⟨hop, rfl, rfl⟩)) fun _ => ?_
  exact .oneWord hd rfl rfl ((encRI_eq_iff hw (by decide) hd).2 ⟨by omega, rfl, rfl⟩)

theorem decodeDisp_faithful (h14 : bitsAt w 14 2 = 2) (h12 : bitsAt w 12 1 = 0) : Faithful w w2 (decodeDisp w) := by
  have h9 := bitsAt_lt w 9 1
  have h3 := bitsAt_lt w 3 1
  have word {s y : Nat} (hs : s < 2) (hy : y < 2) (hb9 : bitsAt w 9 1 = s) (hb3 : bitsAt w 3 1 = y) :=
    (encDisp_eq_iff hw hs hy).2 ⟨h14, h12, hb9, hb3, rfl, rfl⟩
  refine .ite (fun _ => .ite (fun _ => ?_) fun _ => ?_) fun _ => .ite (fun _ => ?_) fun _ => ?_
  all_goals exact .oneWord rfl rfl rfl (word (by decide) (by decide) (by omega) (by omega))

theorem decodeShort_faithful (h : bitsAt w 12 4 = 10) : Faithful w w2 (decodeShort w) := by
  have h11 := bitsAt_lt w 11 1
  have hd := upperReg_fieldUpper w
  have word {s : Nat} (hs : s < 2) (hb : bitsAt w 11 1 = s) := (encShort_eq_iff hw hs hd).2 ⟨h, hb, rfl, rfl⟩
  refine .ite (fun _ => ?_) fun _ => ?_
  all_goals exact .oneWord hd rfl rfl (word (by decide) (by omega))

theorem decodeLoad_faithful (h : bitsAt w 9 7 = 0x48) : Faithful w w2 (decodeLoad w w2) := by
  have word {m : Nat} (hm : m < 16) (hb : bitsAt w 0 4 = m) := (encLdSt_eq_iff hw (s := 0) (by decide) hm).2 ⟨h, hb, rfl⟩
  refine .ite (fun hm => .some ⟨rfl, rfl, word (by decide) hm, rfl⟩) fun _ => ?_
  iterate 12 refine .ite (fun hm => .oneWord rfl rfl rfl (word (by decide) hm)) fun _ => ?_
  exact .none

theorem decodeStore_faithful (h : bitsAt w 9 7 = 0x49) : Faithful w w2 (decodeStore w w2) := by
  have word {m : Nat} (hm : m < 16) (hb : bitsAt w 0 4 = m) := (encLdSt_eq_iff hw (s := 1) (by decide) hm).2 ⟨h, hb, rfl⟩
  refine .ite (fun hm => .some ⟨rfl, rfl, word (by decide) hm, rfl⟩) fun _ => ?_
  iterate 8 refine .ite (fun hm => .oneWord rfl rfl rfl (word (by decide) hm)) fun _ => ?_
  exact .none

/-- The words of no operand (R121) and of one register in the group `1001 010`, from their three fields. -/
theorem eq_of_oneReg_fields {x m : Nat} (h : bitsAt w 9 7 = 0x4A) (hx : bitsAt w 4 5 = x) (hm : bitsAt w 0 4 = m) :
    0x9400 + x * 16 + m = w := by
  unfold bitsAt at *
  omega

theorem decodeControl_faithful (h : bitsAt w 9 7 = 0x4A) (h8 : bitsAt w 8 1 = 1) (hm : bitsAt w 0 4 = 8) :
    Faithful w w2 (decodeControl w) := by
  have word {x : Nat} (hx : bitsAt w 4 4 = x) : 0x9400 + (16 + x) * 16 + 8 = w := by
    refine eq_of_oneReg_fields hw h ?_ hm
    unfold bitsAt at *
    omega
  iterate 9 refine .ite (fun hx => .oneWord rfl rfl rfl (word hx)) fun _ => ?_
  exact .none

theorem decodeFlag_faithful (h : bitsAt w 9 7 = 0x4A) (hm : bitsAt w 0 4 = 8) : Faithful w w2 (decodeFlag w) := by
  have h8 := bitsAt_lt w 8 1
  have h7 := bitsAt_lt w 7 1
  have word {o : Nat} (ho : o < 2) (h8 : bitsAt w 8 1 = 0) (hb : bitsAt w 7 1 = o) :=
    (encSreg_eq_iff hw ho).2 ⟨h, h8, hb, hm, rfl⟩
  refine .ite (fun h8 => decodeControl_faithful hw h h8 hm) fun _ => .ite (fun _ => ?_) fun _ => ?_
  all_goals exact .oneWord rfl rfl rfl (word (by decide) (by omega) (by omega))

theorem decodeIndirect_faithful (h : bitsAt w 9 7 = 0x4A) (hm : bitsAt w 0 4 = 9) : Faithful w w2 (decodeIndirect w) := by
  iterate 4 refine .ite (fun hx => .oneWord rfl rfl rfl (eq_of_oneReg_fields hw h hx hm)) fun _ => ?_
  exact .none

theorem decodeOneReg_faithful (hw2 : w2 < 65536) (h : bitsAt w 9 7 = 0x4A) : Faithful w w2 (decodeOneReg w w2) := by
  have h8 := bitsAt_lt w 8 1
  have word {m : Nat} (hm : m < 16) (hb : bitsAt w 0 4 = m) := (encR1_eq_iff hw hm).2 ⟨h, hb, rfl⟩
  have words {o : Nat} (ho : o < 2) (hm : bitsAt w 0 4 = 12 + 2 * o ∨ bitsAt w 0 4 = 13 + 2 * o) :
      encAbs o (fieldAbs w w2) = w ∧ (fieldAbs w w2).setWidth 16 = BitVec.ofNat 16 w2 := by
    refine (encAbs_eq_iff hw ho hw2).2 ⟨h, ?_, ?_, rfl⟩ <;> unfold bitsAt at hm ⊢ <;> omega
  iterate 7 refine .ite (fun hm => .oneWord rfl rfl rfl (word (by decide) hm)) fun _ => ?_
  refine .ite (fun hm => decodeFlag_faithful hw h hm) fun _ => .ite (fun hm => decodeIndirect_faithful hw h hm) fun _ => ?_
  refine .ite (fun hm => .oneWord rfl rfl rfl (word (by decide) hm)) fun _ => ?_
  refine .ite (fun hm => .ite (fun h8 => ?_) fun _ => .none) fun _ => ?_
  · exact .oneWord rfl rfl rfl ((encDes_eq_iff hw).2 ⟨h, h8, hm, rfl⟩)
  refine .ite (fun hm => ?_) fun _ => .ite (fun hm => ?_) fun _ => .none
  · obtain ⟨hfirst, hsecond⟩ := words (o := 0) (by decide) hm
    exact .some ⟨rfl, rfl, hfirst, hsecond⟩
  · obtain ⟨hfirst, hsecond⟩ := words (o := 1) (by decide) hm
    exact .some ⟨rfl, rfl, hfirst, hsecond⟩

theorem decodeNine_faithful (hw2 : w2 < 65536) (h : bitsAt w 12 4 = 9) : Faithful w w2 (decodeNine w w2) := by
  have hlt := bitsAt_lt w 8 4
  have htop : bitsAt w 9 7 = 0x48 + bitsAt w 8 4 / 2 := by
    unfold bitsAt at *
    omega
  have hd := wordReg_fieldWordReg w
  have immWord {o : Nat} (ho : o < 2) (hx : bitsAt w 8 4 = 6 + o) := (encIW_eq_iff hw ho hd).2 ⟨h, hx, rfl, rfl⟩
  have ioWord {o : Nat} (ho : o < 4) (hx : bitsAt w 8 4 = 8 + o) := (encIoBit_eq_iff hw ho).2 ⟨h, hx, rfl, rfl⟩
  refine .ite (fun _ => decodeLoad_faithful hw (by omega)) fun _ => ?_
  refine .ite (fun _ => decodeStore_faithful hw (by omega)) fun _ => ?_
  refine .ite (fun _ => decodeOneReg_faithful hw hw2 (by omega)) fun _ => ?_
  iterate 2 refine .ite (fun hx => .oneWord hd rfl rfl (immWord (by decide) hx)) fun _ => ?_
  iterate 4 refine .ite (fun hx => .oneWord rfl rfl rfl (ioWord (by decide) hx)) fun _ => ?_
  refine .oneWord rfl rfl rfl ((encRR_eq_iff hw (by decide)).2 ⟨?_, rfl, rfl⟩)
  unfold bitsAt at *
  omega

theorem decodeBranch_faithful (h : bitsAt w 12 4 = 15) : Faithful w w2 (decodeBranch w) := by
  have h11 := bitsAt_lt w 11 1
  have h10 := bitsAt_lt w 10 1
  have h9 := bitsAt_lt w 9 2
  have h3 := bitsAt_lt w 3 1
  have branch {o : Nat} (ho : o < 2) (h11 : bitsAt w 11 1 = 0) (hb : bitsAt w 10 1 = o) :=
    (encBr_eq_iff hw ho).2 ⟨h, h11, hb, rfl, rfl⟩
  have bit {o : Nat} (ho : o < 4) (h11 : bitsAt w 11 1 = 1) (h3 : bitsAt w 3 1 = 0) (hb : bitsAt w 9 2 = o) :=
    (encRBit_eq_iff hw ho).2 ⟨h, h11, hb, h3, rfl, rfl⟩
  refine .ite (fun h11 => .ite (fun hb => ?_) fun _ => ?_) fun h11 => .ite (fun _ => .none) fun h3 => ?_
  iterate 2 exact .oneWord rfl rfl rfl (branch (by decide) h11 (by omega))
  iterate 3 refine .ite (fun hb => .oneWord rfl rfl rfl (bit (by decide) (by omega) (by omega) hb)) fun _ => ?_
  exact .oneWord rfl rfl rfl (bit (by decide) (by omega) (by omega) (by omega))

/-- Every word that decodes is, with its second word, the encoding of what it decodes to. -/
theorem decodeRow_faithful (hw2 : w2 < 65536) (reduced : Bool) : Faithful w w2 (decodeRow reduced w w2) := by
  have h12 := bitsAt_lt w 12 4
  have h11 := bitsAt_lt w 11 1
  have disp (hx : bitsAt w 12 4 = 8 ∨ bitsAt w 12 4 = 10) : Faithful w w2 (decodeDisp w) := by
    refine decodeDisp_faithful hw ?_ ?_ <;> unfold bitsAt at hx ⊢ <;> omega
  have rel {o : Nat} (ho : o < 2) (hx : bitsAt w 12 4 = 12 + o) := (encRel_eq_iff hw ho).2 ⟨hx, rfl⟩
  have io {s : Nat} (hs : s < 2) (hx : bitsAt w 12 4 = 11) (hb : bitsAt w 11 1 = s) :=
    (encIO_eq_iff hw hs).2 ⟨hx, hb, rfl, rfl⟩
  refine .ite (fun hx => decodeTwoReg_faithful hw (by omega)) fun _ => ?_
  refine .ite (fun hx => decodeImm_faithful hw (by simp; omega)) fun _ => ?_
  refine .ite (fun hx => disp (.inl hx)) fun _ => .ite (fun hx => decodeNine_faithful hw hw2 hx) fun _ => ?_
  refine .ite (fun hx => .ite (fun _ => decodeShort_faithful hw hx) fun _ => disp (.inr hx)) fun _ => ?_
  refine .ite (fun hx => .ite (fun hb => ?_) fun hb => ?_) fun _ => ?_
  iterate 2 exact .oneWord rfl rfl rfl (io (by decide) hx (by omega))
  refine .ite (fun hx => .oneWord rfl rfl rfl (rel (o := 0) (by decide) hx)) fun _ => ?_
  refine .ite (fun hx => .oneWord rfl rfl rfl (rel (o := 1) (by decide) hx)) fun _ => ?_
  exact .ite (fun hx => decodeImm_faithful hw (by simp [hx])) fun _ => decodeBranch_faithful hw (by omega)

end

end Sys2Proof.Machine
end

section
/-! What words decode to (spec/30_encoding.md R122, R123): the part of the opcode map that the leading bits choose, the fields of each
format's words, and so the decoding of every encoded instruction. -/
namespace Sys2Proof.Machine
open Sys2Proof.Laws

/-! ### The leading bits -/

section
variable {w : Nat} (reduced : Bool) (w2 : Nat)

theorem decodeRow_twoReg (h : bitsAt w 10 6 < 12) : decodeRow reduced w w2 = decodeTwoReg w := by
  have hx : bitsAt w 12 4 = 0 ∨ bitsAt w 12 4 = 1 ∨ bitsAt w 12 4 = 2 := by
    unfold bitsAt at *
    omega
  exact if_pos hx

theorem decodeRow_low (h : bitsAt w 10 6 = 0) : decodeRow reduced w w2 = decodeLow w := by
  have hop : bitsAt w 10 4 = 0 := by
    unfold bitsAt at *
    omega
  rw [decodeRow_twoReg reduced w2 (by omega), decodeTwoReg, if_pos hop]

theorem decodeRow_disp (h14 : bitsAt w 14 2 = 2) (h12 : bitsAt w 12 1 = 0) (h : reduced = false ∨ bitsAt w 13 1 = 0) :
    decodeRow reduced w w2 = decodeDisp w := by
  have hx : bitsAt w 12 4 = 8 ∨ bitsAt w 12 4 = 10 ∧ bitsAt w 13 1 = 1 := by
    unfold bitsAt at *
    omega
  rcases hx with hx | ⟨hx, h13⟩
  · simp [decodeRow, hx]
  · have hr : reduced = false := h.resolve_right (by omega)
    simp [decodeRow, hx, hr]

theorem decodeRow_nine (h : bitsAt w 12 4 = 9) : decodeRow reduced w w2 = decodeNine w w2 := by simp [decodeRow, h]

theorem decodeRow_load (h : bitsAt w 9 7 = 0x48) : decodeRow reduced w w2 = decodeLoad w w2 := by
  obtain ⟨hnine, hx⟩ : bitsAt w 12 4 = 9 ∧ (bitsAt w 8 4 = 0 ∨ bitsAt w 8 4 = 1) := by
    unfold bitsAt at *
    omega
  rw [decodeRow_nine reduced w2 hnine, decodeNine, if_pos hx]

theorem decodeRow_store (h : bitsAt w 9 7 = 0x49) : decodeRow reduced w w2 = decodeStore w w2 := by
  obtain ⟨hnine, hx⟩ : bitsAt w 12 4 = 9 ∧ (bitsAt w 8 4 = 2 ∨ bitsAt w 8 4 = 3) := by
    unfold bitsAt at *
    omega
  rw [decodeRow_nine reduced w2 hnine, decodeNine, if_neg (by omega), if_pos hx]

theorem decodeRow_oneReg (h : bitsAt w 9 7 = 0x4A) : decodeRow reduced w w2 = decodeOneReg w w2 := by
  obtain ⟨hnine, hx⟩ : bitsAt w 12 4 = 9 ∧ (bitsAt w 8 4 = 4 ∨ bitsAt w 8 4 = 5) := by
    unfold bitsAt at *
    omega
  rw [decodeRow_nine reduced w2 hnine, decodeNine, if_neg (by omega), if_neg (by omega), if_pos hx]

theorem decodeRow_mul (h : bitsAt w 10 6 = 39) : decodeRow reduced w w2 = some (.mul (fieldReg w) (fieldRegR w)) := by
  obtain ⟨hnine, hx⟩ : bitsAt w 12 4 = 9 ∧ 12 ≤ bitsAt w 8 4 := by
    unfold bitsAt at *
    omega
  rw [decodeRow_nine reduced w2 hnine, decodeNine]
  iterate 9 rw [if_neg (by omega)]

/-- JMP and CALL: the lowest bit of the first word is an address bit (R116). -/
theorem decodeRow_abs {o : Nat} (h : bitsAt w 9 7 = 0x4A) (h2 : bitsAt w 2 2 = 3) (ho : bitsAt w 1 1 = o) :
    decodeRow reduced w w2 = some (if o = 0 then .jmp (fieldAbs w w2) else .call (fieldAbs w w2)) := by
  have hm : bitsAt w 0 4 = 12 + 2 * o ∨ bitsAt w 0 4 = 13 + 2 * o := by
    unfold bitsAt at *
    omega
  have hlt := bitsAt_lt w 1 1
  obtain rfl | rfl : o = 0 ∨ o = 1 := by omega
  all_goals rcases hm with hm | hm <;> simp [decodeRow_oneReg reduced w2 h, decodeOneReg, hm]

end

/-! ### The fields of the words -/

theorem fields_encRR {op : Nat} (hop : op < 64) (d r : Reg) :
    bitsAt (encRR op d r) 10 6 = op ∧ bitsAt (encRR op d r) 10 4 = op % 16
      ∧ fieldReg (encRR op d r) = d ∧ fieldRegR (encRR op d r) = r := by
  obtain ⟨h, hd, hr⟩ := (encRR_eq_iff (encRR_lt hop d r) hop).1 rfl
  refine ⟨h, ?_, hd, hr⟩
  unfold bitsAt at *
  omega

theorem fields_encRI {op : Nat} (hop : op < 16) {d : Reg} (hd : upperReg d = true) (k : BitVec 8) :
    bitsAt (encRI op d k) 12 4 = op ∧ fieldUpper (encRI op d k) = d ∧ fieldImm (encRI op d k) = k :=
  (encRI_eq_iff (encRI_lt hop d k) hop hd).1 rfl

theorem fields_encR1 {op : Nat} (hop : op < 16) (d : Reg) :
    bitsAt (encR1 op d) 9 7 = 0x4A ∧ bitsAt (encR1 op d) 0 4 = op ∧ fieldReg (encR1 op d) = d :=
  (encR1_eq_iff (encR1_lt hop d) hop).1 rfl

theorem fields_encLdSt {s m : Nat} (hs : s < 2) (hm : m < 16) (d : Reg) :
    bitsAt (encLdSt s m d) 9 7 = 0x48 + s ∧ bitsAt (encLdSt s m d) 0 4 = m ∧ fieldReg (encLdSt s m d) = d :=
  (encLdSt_eq_iff (encLdSt_lt hs hm d) hs hm).1 rfl

theorem fields_encDisp {s y : Nat} (hs : s < 2) (hy : y < 2) (d : Reg) (q : Fin 64) :
    bitsAt (encDisp s y d q) 14 2 = 2 ∧ bitsAt (encDisp s y d q) 12 1 = 0 ∧ bitsAt (encDisp s y d q) 9 1 = s
      ∧ bitsAt (encDisp s y d q) 3 1 = y ∧ fieldReg (encDisp s y d q) = d ∧ fieldDisp (encDisp s y d q) = q :=
  (encDisp_eq_iff (encDisp_lt hs hy d q) hs hy).1 rfl

theorem fields_encShort {s : Nat} (hs : s < 2) {d : Reg} (hd : upperReg d = true) (k : BitVec 7) :
    bitsAt (encShort s d k) 12 4 = 10 ∧ bitsAt (encShort s d k) 11 1 = s ∧ fieldUpper (encShort s d k) = d
      ∧ fieldShortAddr (encShort s d k) = k :=
  (encShort_eq_iff (encShort_lt hs d k) hs hd).1 rfl

theorem fields_encIW {o : Nat} (ho : o < 2) {d : Reg} (hd : wordReg d = true) (k : Fin 64) :
    bitsAt (encIW o d k) 12 4 = 9 ∧ bitsAt (encIW o d k) 8 4 = 6 + o ∧ fieldWordReg (encIW o d k) = d
      ∧ fieldWordImm (encIW o d k) = k :=
  (encIW_eq_iff (encIW_lt ho d k) ho hd).1 rfl

theorem fields_encIO {s : Nat} (hs : s < 2) (d : Reg) (a : Fin 64) :
    bitsAt (encIO s d a) 12 4 = 11 ∧ bitsAt (encIO s d a) 11 1 = s ∧ fieldReg (encIO s d a) = d ∧ fieldIo (encIO s d a) = a :=
  (encIO_eq_iff (encIO_lt hs d a) hs).1 rfl

theorem fields_encIoBit {o : Nat} (ho : o < 4) (a : Fin 32) (b : BitNum) :
    bitsAt (encIoBit o a b) 12 4 = 9 ∧ bitsAt (encIoBit o a b) 8 4 = 8 + o ∧ fieldIoLow (encIoBit o a b) = a
      ∧ fieldBit (encIoBit o a b) = b :=
  (encIoBit_eq_iff (encIoBit_lt ho a b) ho).1 rfl

theorem fields_encRel {o : Nat} (ho : o < 2) (k : BitVec 12) :
    bitsAt (0xC000 + o * 4096 + k.toNat) 12 4 = 12 + o ∧ BitVec.ofNat 12 (0xC000 + o * 4096 + k.toNat) = k :=
  (encRel_eq_iff (by omega) ho).1 rfl

theorem fields_encBr {o : Nat} (ho : o < 2) (b : BitNum) (k : BitVec 7) :
    bitsAt (encBr o b k) 12 4 = 15 ∧ bitsAt (encBr o b k) 11 1 = 0 ∧ bitsAt (encBr o b k) 10 1 = o
      ∧ fieldBit (encBr o b k) = b ∧ fieldBranch (encBr o b k) = k :=
  (encBr_eq_iff (encBr_lt ho b k) ho).1 rfl

theorem fields_encRBit {o : Nat} (ho : o < 4) (d : Reg) (b : BitNum) :
    bitsAt (encRBit o d b) 12 4 = 15 ∧ bitsAt (encRBit o d b) 11 1 = 1 ∧ bitsAt (encRBit o d b) 9 2 = o
      ∧ bitsAt (encRBit o d b) 3 1 = 0 ∧ fieldReg (encRBit o d b) = d ∧ fieldBit (encRBit o d b) = b :=
  (encRBit_eq_iff (encRBit_lt ho d b) ho).1 rfl

theorem fields_encSreg {o : Nat} (ho : o < 2) (b : BitNum) :
    bitsAt (encSreg o b) 9 7 = 0x4A ∧ bitsAt (encSreg o b) 8 1 = 0 ∧ bitsAt (encSreg o b) 7 1 = o
      ∧ bitsAt (encSreg o b) 0 4 = 8 ∧ Fin.ofNat 8 (bitsAt (encSreg o b) 4 3) = b :=
  (encSreg_eq_iff (encSreg_lt ho b) ho).1 rfl

theorem fields_encMul3 {o7 o3 : Nat} (ho7 : o7 < 2) (ho3 : o3 < 2) {d r : Reg} (hd : mulReg d = true) (hr : mulReg r = true) :
    bitsAt (encMul3 o7 o3 d r) 10 6 = 0 ∧ bitsAt (encMul3 o7 o3 d r) 8 2 = 3 ∧ bitsAt (encMul3 o7 o3 d r) 7 1 = o7
      ∧ bitsAt (encMul3 o7 o3 d r) 3 1 = o3 ∧ Fin.ofNat 32 (16 + bitsAt (encMul3 o7 o3 d r) 4 3) = d
      ∧ Fin.ofNat 32 (16 + bitsAt (encMul3 o7 o3 d r) 0 3) = r :=
  (encMul3_eq_iff (encMul3_lt ho7 ho3 d r) ho7 ho3 hd hr).1 rfl

theorem fields_encAbs {o : Nat} (ho : o < 2) (k : BitVec 22) :
    bitsAt (encAbs o k) 9 7 = 0x4A ∧ bitsAt (encAbs o k) 2 2 = 3 ∧ bitsAt (encAbs o k) 1 1 = o
      ∧ fieldAbs (encAbs o k) (k.setWidth 16).toNat = k :=
  (encAbs_eq_iff (encAbs_lt ho k) ho (k.setWidth 16).isLt).1 ⟨rfl, by rw [BitVec.ofNat_toNat, BitVec.setWidth_eq]⟩

/-! ### Decoding what is encoded -/

theorem decodeRow_encDisp {reduced : Bool} {q : Fin 64} (h : reduced = false ∨ q = 0) {s y : Nat} (hs : s < 2) (hy : y < 2)
    (d : Reg) (w2 : Nat) : decodeRow reduced (encDisp s y d q) w2 = decodeDisp (encDisp s y d q) := by
  obtain ⟨h14, h12, -, -, -, hq⟩ := fields_encDisp hs hy d q
  refine decodeRow_disp reduced w2 h14 h12 (h.imp_right fun h0 => ?_)
  obtain ⟨h13, -⟩ := fieldDisp_eq_iff.1 hq
  rw [h13, h0]
  rfl

/-- The words of a well-formed instruction decode to it, those of another name to what it names (R128). -/
theorem decodeRow_encode {c : Config} {i : Instr} (hwf : i.wf = true) (hunit : i.canonical.unitPresent c = true) (w2 : Word16) :
    decodeRow c.reducedCore (encodeFirst i) ((encodeSecond i).getD w2).toNat = some i.canonical := by
  cases i with
  | add | adc | sub | sbc | and | or | eor | cp | cpc | cpse | mov | tst | clr | lsl | rol =>
    simp [encodeFirst, Instr.canonical, decodeRow_twoReg, decodeTwoReg, fields_encRR]
  | mul => simp [encodeFirst, Instr.canonical, decodeRow_mul, fields_encRR]
  | subi | sbci | andi | ori | cpi | ldi | sbr | ser =>
    have hd : upperReg _ = true := hwf
    simp [encodeFirst, Instr.canonical, decodeRow, decodeImm, fields_encRI, hd]
  | cbr d k =>
    have hd : upperReg d = true := hwf
    have hk : 0xFF#8 - k = ~~~k := by bv_omega
    simp [encodeFirst, Instr.canonical, decodeRow, decodeImm, fields_encRI, hd, hk]
  | com | neg | swap | inc | asr | lsr | ror | dec =>
    simp [encodeFirst, Instr.canonical, decodeRow_oneReg, decodeOneReg, fields_encR1]
  | lds | ldX | ldXInc | ldXDec | ldYInc | ldYDec | ldZInc | ldZDec | pop | lpmZ | lpmZInc | elpmZ | elpmZInc =>
    simp [encodeFirst, encodeSecond, Instr.canonical, decodeRow_load, decodeLoad, fields_encLdSt]
  | sts | stX | stXInc | stXDec | stYInc | stYDec | stZInc | stZDec | push =>
    simp [encodeFirst, encodeSecond, Instr.canonical, decodeRow_store, decodeStore, fields_encLdSt]
  | lddY | lddZ | stdY | stdZ =>
    simp only [Instr.canonical, Instr.unitPresent, Bool.or_eq_true, Bool.not_eq_true', beq_iff_eq] at hunit
    simp [encodeFirst, Instr.canonical, decodeRow_encDisp hunit, decodeDisp, fields_encDisp]
  | ldY | ldZ | stY | stZ =>
    simp [encodeFirst, Instr.canonical, decodeRow_encDisp (.inr rfl), decodeDisp, fields_encDisp]
  | lds16 | sts16 =>
    have hd : upperReg _ = true := hwf
    have hr : c.reducedCore = true := hunit
    simp [encodeFirst, Instr.canonical, decodeRow, decodeShort, fields_encShort, hd, hr]
  | adiw | sbiw =>
    have hd : wordReg _ = true := hwf
    simp [encodeFirst, Instr.canonical, decodeRow_nine, decodeNine, fields_encIW, hd]
  | cbi | sbic | sbi | sbis => simp [encodeFirst, Instr.canonical, decodeRow_nine, decodeNine, fields_encIoBit]
  | ioIn | ioOut => simp [encodeFirst, Instr.canonical, decodeRow, fields_encIO]
  | brbs | brbc | breq | brne | brcs | brcc | brsh | brlo | brmi | brpl | brge | brlt | brhs | brhc | brts | brtc | brvs | brvc
  | brie | brid => simp [encodeFirst, Instr.canonical, decodeRow, decodeBranch, fields_encBr]
  | bld | bst | sbrc | sbrs => simp [encodeFirst, Instr.canonical, decodeRow, decodeBranch, fields_encRBit]
  | bset | bclr | sec | clc | sen | cln | sez | clz | sei | cli | ses | cls | sev | clv | setT | clt | seh | clh =>
    simp [encodeFirst, Instr.canonical, decodeRow_oneReg, decodeOneReg, decodeFlag, fields_encSreg, -Fin.ofNat_eq_cast]
  | mulsu | fmul | fmuls | fmulsu =>
    obtain ⟨hd, hr⟩ : mulReg _ = true ∧ mulReg _ = true := Bool.and_eq_true_iff.1 hwf
    simp [encodeFirst, Instr.canonical, decodeRow_low, decodeLow, fields_encMul3, hd, hr, -Fin.ofNat_eq_cast]
  | movw d r =>
    obtain ⟨hd, hr⟩ : evenReg d = true ∧ evenReg r = true := Bool.and_eq_true_iff.1 hwf
    obtain ⟨h10, h8, hfd, hfr⟩ := (encMovw_eq_iff (by omega) hd hr).1 rfl
    rw [encodeFirst, decodeRow_low _ _ h10, decodeLow]
    simp [h8, hfd, hfr, Instr.canonical, -Fin.ofNat_eq_cast]
  | muls d r =>
    obtain ⟨hd, hr⟩ : upperReg d = true ∧ upperReg r = true := Bool.and_eq_true_iff.1 hwf
    obtain ⟨h10, h8, hfd, hfr⟩ := (encMuls_eq_iff (by omega) hd hr).1 rfl
    rw [encodeFirst, decodeRow_low _ _ h10, decodeLow]
    simp [h8, hfd, hfr, Instr.canonical]
  | des k =>
    obtain ⟨h9, h8, hm, hk⟩ := (encDes_eq_iff (by omega)).1 rfl
    rw [encodeFirst, decodeRow_oneReg _ _ h9, decodeOneReg]
    simp [h8, hm, hk, Instr.canonical, -Fin.ofNat_eq_cast]
  | rjmp k =>
    obtain ⟨hx, hk⟩ := fields_encRel (o := 0) (by decide) k
    simp [encodeFirst, Instr.canonical, decodeRow, hx, hk]
  | rcall k =>
    obtain ⟨hx, hk⟩ := fields_encRel (o := 1) (by decide) k
    simp [encodeFirst, Instr.canonical, decodeRow, hx, hk]
  | jmp | call =>
    simp [encodeFirst, encodeSecond, Instr.canonical, decodeRow_abs, fields_encAbs, -BitVec.toNat_setWidth]
  | ijmp | eijmp | icall | eicall | ret | reti | lpmR0 | elpmR0 | spm | spmZInc | brk | nop | sleep | wdr => rfl

end Sys2Proof.Machine
end

section
/-! Encode and decode (spec/30_encoding.md R100, R101, R122, R128): the length of an instruction and the test on its first word, and
the two directions in which the encoder and the decoder agree. -/
namespace Sys2Proof.Machine
open Sys2Proof.Laws

/-! ### The words of an instruction -/

theorem sameWords (i : Instr) : SameWords.Statement i := by
  cases i with
  | cbr d k => exact SameWords.cbr d k
  | _ => exact fun _ => rfl

theorem encodeSecond_canonical (i : Instr) : encodeSecond i.canonical = encodeSecond i := by
  cases i <;> rfl

theorem encodeFirst_lt {i : Instr} (hwf : i.wf = true) : encodeFirst i < 65536 := by
  cases i with
  | movw d r => exact FirstWordFits.movw d r hwf
  | muls d r => exact FirstWordFits.muls d r hwf
  | des k => exact FirstWordFits.des k hwf
  | rjmp k => exact FirstWordFits.rjmp k hwf
  | rcall k => exact FirstWordFits.rcall k hwf
  | _ =>
    simp [encodeFirst, encRR_lt, encRI_lt, encR1_lt, encLdSt_lt, encDisp_lt, encShort_lt, encIW_lt, encIO_lt, encIoBit_lt, encBr_lt,
      encRBit_lt, encSreg_lt, encAbs_lt, encMul3_lt]

theorem encodeFirst_toNat {i : Instr} (hwf : i.wf = true) : (BitVec.ofNat 16 (encodeFirst i)).toNat = encodeFirst i :=
  Nat.mod_eq_of_lt (encodeFirst_lt hwf)

/-- Settles O56: the words decode to the core instruction, and the device has what it needs. -/
theorem decodeEncode : Obligations.DecodeEncode := by
  intro c i w2 hwf hoffers hregs
  have hunit := (offers_iff.1 hoffers).2
  exact decode_eq_instr.2 ⟨by rw [encodeFirst_toNat hwf, decodeRow_encode hwf hunit], hoffers, hregs⟩

/-! ### The length -/

/-- The bits of a word under a mask that keeps them. -/
theorem bitsAt_of_and {w m v : Word16} {lo len : Nat} (h : w &&& m = v) (hm : m.extractLsb' lo len = BitVec.allOnes len) :
    bitsAt w.toNat lo len = bitsAt v.toNat lo len := by
  rw [bitsAt, bitsAt, ← toNat_extract, ← toNat_extract, ← h, BitVec.extractLsb'_and, hm, BitVec.and_allOnes]

theorem takesSecond_iff {w : Nat} (hw : w < 65536) :
    TakesSecond w ↔ bitsAt w 9 7 = 0x48 ∧ bitsAt w 0 4 = 0 ∨ bitsAt w 9 7 = 0x49 ∧ bitsAt w 0 4 = 0
      ∨ bitsAt w 9 7 = 0x4A ∧ bitsAt w 2 2 = 3 := by
  unfold TakesSecond bitsAt
  omega

/-- The test of R101 holds exactly for the words whose decoding reads a second one. -/
theorem isTwoWord_iff {w : Word16} : isTwoWord w = true ↔ TakesSecond w.toNat := by
  refine ⟨fun h => ?_, isTwoWord_of_takesSecond⟩
  rw [takesSecond_iff w.isLt]
  simp only [isTwoWord, Bool.or_eq_true, beq_iff_eq] at h
  rcases h with h | h
  · exact .inr (.inr ⟨bitsAt_of_and h rfl, bitsAt_of_and h rfl⟩)
  · have hhigh : bitsAt w.toNat 10 6 = 0x24 := bitsAt_of_and h rfl
    have hlow : bitsAt w.toNat 0 4 = 0 := bitsAt_of_and h rfl
    unfold bitsAt at *
    omega

/-- The instructions with a second word (R100). -/
theorem encodeSecond_isSome_iff {i : Instr} :
    (encodeSecond i).isSome = true ↔ ∃ d : Reg, ∃ k : BitVec 16, ∃ l : BitVec 22,
      i = .jmp l ∨ i = .call l ∨ i = .lds d k ∨ i = .sts k d := by
  constructor
  · intro h
    cases i with
    | jmp l => exact ⟨0, 0, l, .inl rfl⟩
    | call l => exact ⟨0, 0, l, .inr (.inl rfl)⟩
    | lds d k => exact ⟨d, k, 0, .inr (.inr (.inl rfl))⟩
    | sts k d => exact ⟨d, k, 0, .inr (.inr (.inr rfl))⟩
    | _ => cases h
  · rintro ⟨d, k, l, rfl | rfl | rfl | rfl⟩ <;> rfl

/-- A word whose decoding reads a second one decodes to an instruction that has one. -/
theorem encodeSecond_isSome_of_takesSecond {reduced : Bool} {w w2 : Nat} {i : Instr} (hw : w < 65536) (h : TakesSecond w)
    (hi : decodeRow reduced w w2 = some i) : (encodeSecond i).isSome = true := by
  rcases (takesSecond_iff hw).1 h with ⟨hload, hm⟩ | ⟨hstore, hm⟩ | ⟨habs, hm⟩
  · rw [decodeRow_load reduced w2 hload, decodeLoad, if_pos hm] at hi
    cases hi
    rfl
  · rw [decodeRow_store reduced w2 hstore, decodeStore, if_pos hm] at hi
    cases hi
    rfl
  · rw [decodeRow_abs reduced w2 habs hm rfl] at hi
    split at hi <;> cases hi <;> rfl

theorem takesSecond_of_encodeSecond_isSome {i : Instr} (h : (encodeSecond i).isSome = true) : TakesSecond (encodeFirst i) := by
  obtain ⟨d, k, l, rfl | rfl | rfl | rfl⟩ := encodeSecond_isSome_iff.1 h
  all_goals rw [takesSecond_iff (encodeFirst_lt rfl)]
  all_goals simp [encodeFirst, fields_encLdSt, fields_encAbs]

/-- Every instruction is on some device: the 16-bit LDS and STS on a reduced core, the others on the largest. -/
theorem exists_unitPresent (i : Instr) : ∃ c : Config, i.unitPresent c = true := by
  cases i with
  | lds16 | sts16 => exact ⟨{ resetDevice with reducedCore := true }, rfl⟩
  | _ => exact ⟨resetDevice, rfl⟩

/-- The first word alone says whether there is a second (R101). -/
theorem encodeSecond_isSome_eq {i : Instr} (hwf : i.wf = true) :
    (encodeSecond i).isSome = isTwoWord (BitVec.ofNat 16 (encodeFirst i)) := by
  rw [Bool.eq_iff_iff, isTwoWord_iff, encodeFirst_toNat hwf]
  refine ⟨takesSecond_of_encodeSecond_isSome, fun h => ?_⟩
  obtain ⟨c, hunit⟩ := exists_unitPresent i.canonical
  have hrow := encodeSecond_isSome_of_takesSecond (encodeFirst_lt hwf) h (decodeRow_encode hwf hunit 0#16)
  rwa [encodeSecond_canonical] at hrow

theorem length_encode (i : Instr) : (encode i).length = if (encodeSecond i).isSome then 2 else 1 := by
  cases h : encodeSecond i <;> simp [encode, h]

/-! ### Encoding what decodes -/

/-- The words of what decodes: the first, and the second where the first says there is one. -/
theorem encode_of_hasWords {w w2 : Word16} {i : Instr} (h : HasWords w.toNat w2.toNat i) :
    encode i = if isTwoWord w then [w, w2] else [w] := by
  obtain ⟨hwf, -, hfirst, hsecond⟩ := h
  have htwo := encodeSecond_isSome_eq hwf
  rw [hfirst, BitVec.ofNat_toNat, BitVec.setWidth_eq] at htwo
  rw [BitVec.ofNat_toNat, BitVec.setWidth_eq] at hsecond
  rw [encode, hfirst, BitVec.ofNat_toNat, BitVec.setWidth_eq, ← htwo]
  cases hs : encodeSecond i with
  | none => rfl
  | some v =>
    rw [hs] at hsecond
    rw [show v = w2 from hsecond]
    rfl

/-- Settles O57: the words of what decodes, the length by the first word, and the two masks of R101. -/
theorem encodeDecode : Obligations.EncodeDecode := by
  refine ⟨fun c w w2 i h => ?_, fun i hwf => ⟨?_, ?_⟩, fun w => ?_⟩
  · obtain ⟨hrow, -, -⟩ := decode_eq_instr.1 h
    have hwords := decodeRow_faithful w.isLt w2.isLt c.reducedCore i hrow
    exact ⟨hwords.wf, hwords.core, encode_of_hasWords hwords⟩
  · rw [length_encode, encodeSecond_isSome_eq hwf]
  · rw [← encodeSecond_isSome_iff, length_encode]
    cases encodeSecond i <;> simp
  · simp [isTwoWord]

/-- Settles O60: each word is the encoding of its instruction, so it decodes to it. -/
theorem exampleWords : Obligations.ExampleWords := by
  have decodes (i : Instr) (w2 : Word16) (h : i.wf = true) (ho : resetDevice.offers i.canonical = true) :=
    decodeEncode resetDevice i w2 h ho rfl
  exact ⟨decodes (.add 1 2) 0 rfl rfl, decodes (.adiw 24 1) 0 rfl rfl, decodes (.andi 17 0x0F) 0 rfl rfl,
    decodes (.mul 5 4) 0 rfl rfl, decodes (.des 15) 0 rfl rfl, decodes (.rjmp 0xFFF) 0 rfl rfl,
    decodes (.jmp 0x3FFFFF) 0 rfl rfl, decodes (.call 0x000400) 0 rfl rfl, decodes (.brbc 1 5) 0 rfl rfl,
    decodes (.sbrs 0 7) 0 rfl rfl, decodes (.lds 2 0x0123) 0 rfl rfl, decodes (.sts 0x0123 2) 0 rfl rfl,
    decodes (.lddY 4 2) 0 rfl rfl, decodes (.lpmZInc 16) 0 rfl rfl, decodes (.ioIn 0 0x3F) 0 rfl rfl,
    decodes (.push 14) 0 rfl rfl, decodes (.lsr 0) 0 rfl rfl, decodes (.bset 7) 0 rfl rfl, decodes (.cbi 0x12 7) 0 rfl rfl,
    decodes .sleep 0 rfl rfl⟩

end Sys2Proof.Machine
end

section
/-! Other names (spec/30_encoding.md R128): what each of the forty-five means is what the core instruction it names means. -/
namespace Sys2Proof.Machine

/-! ### Another name's meaning -/

/-- An addition of a byte to itself shifts it left, and the flags of LSL and ROL are those of the addition (R341, R343). -/
theorem addFlags_self (old a r : Byte) : addFlags old a a r = shiftLeftFlags old a r := by
  have carry (k : Nat) : carryAt a a r k = a.getLsbD k := by
    unfold carryAt
    cases a.getLsbD k <;> cases r.getLsbD k <;> rfl
  have overflow : ((a.getLsbD 7 && a.getLsbD 7 && !r.getLsbD 7) || (!a.getLsbD 7 && !a.getLsbD 7 && r.getLsbD 7))
      = (r.getLsbD 7 ^^ a.getLsbD 7) := by
    cases a.getLsbD 7 <;> cases r.getLsbD 7 <;> rfl
  rw [addFlags, carry, carry, overflow, shiftLeftFlags]

/-- Adding a carry to a shifted byte fills the bit the shift left clear. -/
theorem add_self_add_carry (a : Byte) (c : Bool) :
    a + a + (BitVec.ofBool c).setWidth 8 = a <<< 1 ||| (BitVec.ofBool c).setWidth 8 := by
  have hshift : a + a = a <<< 1 := by bv_omega
  rw [hshift]
  refine BitVec.add_eq_or_of_and_eq_zero _ _ ?_
  ext i hi
  cases c
  · simp
  · simp +contextual

theorem execAdd_self (d : Reg) (s : State) : execAdd d d s = execLsl d s := by
  have hshift : s.reg d + s.reg d = s.reg d <<< 1 := by bv_omega
  simp only [execAdd, execLsl, addFlags_self, hshift]

theorem execAdc_self (d : Reg) (s : State) : execAdc d d s = execRol d s := by
  simp only [execAdc, execRol, addFlags_self, State.carryByte, add_self_add_carry]

theorem execEor_self (d : Reg) (s : State) : execEor d d s = execClr d s := by
  simp only [execEor, execClr, logicResult, BitVec.xor_self]
  rfl

theorem execCbr_eq (d : Reg) (k : BitVec 8) (s : State) : execCbr d k s = execAndi d (~~~k) s := by
  have hk : 0xFF#8 - k = ~~~k := by bv_omega
  rw [execCbr, execAndi, hk]

/-- A pointer is below 2^W for its width W (R73). -/
theorem ptrGet_lt (s : State) (p : Ptr) : ptrGet s p < 2 ^ ptrWidth s.cfg p := by
  have hpair : s.pairNat p.lo < 2 ^ 16 := pair_toNat s p.lo ▸ (s.pair p.lo).isLt
  by_cases hsmall : s.cfg.ptrClass = .small
  · obtain ⟨hget, hwidth, -⟩ := ptr_of_small (p := p) hsmall 0
    rw [hget, hwidth]
    exact (s.reg p.lo).isLt
  cases hramp : usesRamp s.cfg p with
  | false =>
    obtain ⟨hget, hwidth, -⟩ := ptr_of_pair hsmall hramp 0
    rwa [hget, hwidth]
  | true =>
    obtain ⟨hget, hwidth, -⟩ := ptr_of_ramp hramp 0
    have hbyte := (s.ramp p).isLt
    rw [hget, hwidth]
    omega

/-- With displacement 0 the address is the pointer (R251). -/
theorem ptrDisp_zero (s : State) (p : Ptr) : ptrDisp s p 0 = ptrGet s p := Nat.mod_eq_of_lt (ptrGet_lt s p)

theorem exec_canonical (i : Instr) (s : State) : exec i s = exec i.canonical s := by
  cases i with
  | lsl d => exact (execAdd_self d s).symm
  | rol d => exact (execAdc_self d s).symm
  | clr d => exact (execEor_self d s).symm
  | cbr d k => exact execCbr_eq d k s
  | ldY d => exact congrArg (loadFrom s d · 1) (ptrDisp_zero s .y).symm
  | ldZ d => exact congrArg (loadFrom s d · 1) (ptrDisp_zero s .z).symm
  | stY r => exact congrArg (storeTo s · (s.reg r) 1) (ptrDisp_zero s .y).symm
  | stZ r => exact congrArg (storeTo s · (s.reg r) 1) (ptrDisp_zero s .z).symm
  | _ => rfl

/-- Settles O55: the meanings agree name by name, and the words do. -/
theorem sameMeaning : Obligations.SameMeaning := fun i s => ⟨exec_canonical i s, sameWords i⟩

end Sys2Proof.Machine
end

section
/-! Reserved words (spec/30_encoding.md R125, R126): where each part of the opcode map has no row, and the fault of fetching a
word the device gives no meaning. -/
namespace Sys2Proof.Machine

/-! ### Where the opcode map has no row -/

section
variable {w : Nat} (w2 : Nat)

theorem decodeTwoReg_eq_none : decodeTwoReg w = none ↔ bitsAt w 10 4 = 0 ∧ bitsAt w 8 2 = 0 ∧ w ≠ 0 := by
  simp [decodeTwoReg, decodeLow, ite_eq_iff]

theorem decodeImm_ne_none : decodeImm w ≠ none := by simp [decodeImm, ite_eq_iff]

theorem decodeDisp_ne_none : decodeDisp w ≠ none := by simp [decodeDisp, ite_eq_iff]

theorem decodeLoad_eq_none : decodeLoad w w2 = none ↔ bitsAt w 0 4 ∈ [3, 8, 11] := by
  have := bitsAt_lt w 0 4
  simp only [decodeLoad, ite_eq_iff, reduceCtorEq, and_false, false_or, and_true, List.mem_cons, List.not_mem_nil, or_false]
  omega

theorem decodeStore_eq_none : decodeStore w w2 = none ↔ bitsAt w 0 4 ∈ [3, 4, 5, 6, 7, 8, 11] := by
  have := bitsAt_lt w 0 4
  simp only [decodeStore, ite_eq_iff, reduceCtorEq, and_false, false_or, and_true, List.mem_cons, List.not_mem_nil, or_false]
  omega

theorem decodeControl_eq_none : decodeControl w = none ↔ bitsAt w 4 4 ∈ [2, 3, 4, 5, 6, 7, 11] := by
  have := bitsAt_lt w 4 4
  simp only [decodeControl, ite_eq_iff, reduceCtorEq, and_false, false_or, and_true, List.mem_cons, List.not_mem_nil, or_false]
  omega

theorem decodeFlag_eq_none : decodeFlag w = none ↔ bitsAt w 8 1 = 1 ∧ bitsAt w 4 4 ∈ [2, 3, 4, 5, 6, 7, 11] := by
  simp [decodeFlag, ite_eq_iff, decodeControl_eq_none]

theorem decodeIndirect_eq_none : decodeIndirect w = none ↔ bitsAt w 4 5 ∉ [0, 1, 16, 17] := by
  simp [decodeIndirect, ite_eq_iff]

theorem decodeOneReg_eq_none : decodeOneReg w w2 = none ↔
    bitsAt w 0 4 = 4 ∨ bitsAt w 0 4 = 8 ∧ bitsAt w 8 1 = 1 ∧ bitsAt w 4 4 ∈ [2, 3, 4, 5, 6, 7, 11]
      ∨ bitsAt w 0 4 = 9 ∧ bitsAt w 4 5 ∉ [0, 1, 16, 17] ∨ bitsAt w 0 4 = 11 ∧ bitsAt w 8 1 = 1 := by
  have hm := bitsAt_lt w 0 4
  have h8 := bitsAt_lt w 8 1
  simp only [decodeOneReg, ite_eq_iff, decodeFlag_eq_none, decodeIndirect_eq_none, reduceCtorEq, and_false, false_or, and_true,
    List.mem_cons, List.not_mem_nil, or_false]
  omega

theorem decodeBranch_eq_none : decodeBranch w = none ↔ bitsAt w 11 1 = 1 ∧ bitsAt w 3 1 = 1 := by
  have := bitsAt_lt w 11 1
  simp only [decodeBranch, ite_eq_iff, reduceCtorEq, and_false, false_or, or_false, and_true]
  omega

/-- From `1001 011` up, every word of `1001` has a row. -/
theorem decodeNine_ne_none (h : bitsAt w 12 4 = 9) (h9 : 0x4B ≤ bitsAt w 9 7) : decodeNine w w2 ≠ none := by
  have hx : 6 ≤ bitsAt w 8 4 := by
    unfold bitsAt at *
    omega
  rw [decodeNine, if_neg (by omega), if_neg (by omega), if_neg (by omega)]
  simp [ite_eq_iff]

/-- The reserved first words of R125, (a) to (h), field by field. -/
theorem decodeRow_eq_none : decodeRow false w w2 = none ↔
    (bitsAt w 10 6 = 0 ∧ bitsAt w 8 2 = 0 ∧ w ≠ 0)
      ∨ (bitsAt w 9 7 = 0x48 ∧ bitsAt w 0 4 ∈ [3, 8, 11])
      ∨ (bitsAt w 9 7 = 0x49 ∧ bitsAt w 0 4 ∈ [3, 4, 5, 6, 7, 8, 11])
      ∨ (bitsAt w 9 7 = 0x4A ∧ bitsAt w 0 4 = 4)
      ∨ (bitsAt w 9 7 = 0x4A ∧ bitsAt w 0 4 = 8 ∧ bitsAt w 8 1 = 1 ∧ bitsAt w 4 4 ∈ [2, 3, 4, 5, 6, 7, 11])
      ∨ (bitsAt w 9 7 = 0x4A ∧ bitsAt w 0 4 = 9 ∧ bitsAt w 4 5 ∉ [0, 1, 16, 17])
      ∨ (bitsAt w 9 7 = 0x4A ∧ bitsAt w 0 4 = 11 ∧ bitsAt w 8 1 = 1)
      ∨ (bitsAt w 12 4 = 15 ∧ bitsAt w 11 1 = 1 ∧ bitsAt w 3 1 = 1) := by
  have h12 : bitsAt w 12 4 = bitsAt w 9 7 / 8 := by
    unfold bitsAt
    omega
  have h10 : bitsAt w 10 6 = bitsAt w 9 7 / 2 := by
    unfold bitsAt
    omega
  by_cases hload : bitsAt w 9 7 = 0x48
  · simp [decodeRow_load, decodeLoad_eq_none, h12, h10, hload]
  by_cases hstore : bitsAt w 9 7 = 0x49
  · simp [decodeRow_store, decodeStore_eq_none, h12, h10, hstore]
  by_cases hone : bitsAt w 9 7 = 0x4A
  · simp [decodeRow_oneReg, decodeOneReg_eq_none, h12, h10, hone]
  by_cases hnine : bitsAt w 12 4 = 9
  · have hsix : bitsAt w 10 6 ≠ 0 := by omega
    simp [decodeRow_nine false w2 hnine, decodeNine_ne_none w2 hnine (by omega), hload, hstore, hone, hnine, hsix]
  have hlt := bitsAt_lt w 12 4
  have hlow : bitsAt w 10 6 = 0 ↔ bitsAt w 12 4 ≤ 2 ∧ bitsAt w 10 4 = 0 := by
    unfold bitsAt
    omega
  simp only [decodeRow, ite_eq_iff, decodeTwoReg_eq_none, decodeImm_ne_none, decodeDisp_ne_none, decodeBranch_eq_none, hnine,
    hload, hstore, hone, hlow, reduceCtorEq, Bool.false_eq_true, false_and, and_false, false_or, or_false,
    not_false_eq_true, true_and]
  omega

theorem decode_eq_noRow {c : Config} {w w2 : Word16} :
    decode c w w2 = .rejected .noRow ↔ decodeRow c.reducedCore w.toNat w2.toNat = none := by
  unfold decode
  split
  · simp [*]
  · split
    · simp [*]
    · split <;> simp [*]

end

/-! ### The reduced core -/

theorem decodeDisp_cases {w : Nat} {i : Instr} (h : decodeDisp w = some i) :
    ∃ d, i = .lddY d (fieldDisp w) ∨ i = .lddZ d (fieldDisp w) ∨ i = .stdY (fieldDisp w) d ∨ i = .stdZ (fieldDisp w) d := by
  unfold decodeDisp at h
  split at h <;> split at h <;> cases h <;> exact ⟨fieldReg w, by simp⟩

/-- On a reduced core a word of LDD or STD decodes only with displacement 0 (log 34). -/
theorem fieldDisp_eq_zero_of_decode {c : Config} (hc : c.reducedCore = true) {w w2 : Word16} (h8 : bitsAt w.toNat 12 4 = 8)
    {i : Instr} (h : decode c w w2 = .instr i) : fieldDisp w.toNat = 0 := by
  obtain ⟨hrow, hoffers, -⟩ := decode_eq_instr.1 h
  have hdisp : decodeDisp w.toNat = some i := by simpa [decodeRow, h8] using hrow
  obtain ⟨d, hi⟩ := decodeDisp_cases hdisp
  exact disp_eq_zero_of_unitPresent hc (offers_iff.1 hoffers).2 hi

/-! ### The fault -/

/-- The fetch of a word that the device gives no meaning is the fault that names it (R126). -/
theorem fetchInstr_of_rejected {s : State} {w : Word16} {why : Rejection} (hw : wordAt s s.pc.toNat = some w)
    (h : decode s.cfg w 0#16 = .rejected why) : fetchInstr s = .fault (.reservedOpcode w) := by
  unfold fetchInstr
  rw [progWord_of_wordAt hw, Res.andThen_next, h]

/-- Settles O58: group by group, the words without a row; LDD and STD by their displacement; the fetch of such a word. -/
theorem reservedWords : Obligations.ReservedWords := by
  refine ⟨fun c w w2 hc => ?_, fun c w w2 hc h8 hq => ?_, fun s w why hquiet hnext hw hdecode => ?_⟩
  · have hw := w.isLt
    have hi9 : bitsAt w.toNat 9 7 = w.toNat / 2 ^ 9 := by
      unfold bitsAt
      omega
    have hlo : bitsAt w.toNat 0 4 = w.toNat % 16 := by simp [bitsAt]
    have hmid : bitsAt w.toNat 4 4 = w.toNat / 16 % 16 := rfl
    have h95 : w.toNat / 2 ^ 8 = 0x95 ↔ w.toNat / 2 ^ 9 = 0x4A ∧ bitsAt w.toNat 8 1 = 1 := by
      unfold bitsAt
      omega
    dsimp only
    rw [decode_eq_noRow, hc, decodeRow_eq_none, hi9, hlo, hmid, h95]
    refine or_congr ?_ (or_congr .rfl (or_congr .rfl (or_congr .rfl (or_congr ?_ (or_congr ?_ (or_congr ?_ ?_))))))
    · have hzero : w ≠ 0#16 ↔ w.toNat ≠ 0 := by simp [BitVec.toNat_eq]
      rw [hzero]
      unfold bitsAt
      omega
    · tauto
    · simp only [List.mem_cons, List.not_mem_nil, or_false, BitVec.toNat_eq, BitVec.toNat_ofNat]
      unfold bitsAt
      omega
    · tauto
    · unfold bitsAt
      omega
  · cases h : decode c w w2 with
    | rejected why => exact ⟨why, rfl⟩
    | instr i =>
      have hzero := fieldDisp_eq_zero_of_decode hc (by simp [bitsAt, h8]) h
      obtain ⟨-, h10, h0⟩ : _ ∧ w.toNat / 1024 % 4 = 0 ∧ w.toNat % 8 = 0 := by simpa [bitsAt] using fieldDisp_eq_iff.1 hzero
      exact absurd hq (by simp [h10, h0])
  · rw [step_runs hquiet hnext.1 (dueInterrupt_of_runsNext hnext), fetchInstr_of_rejected hw hdecode, Res.andThen_fault]

end Sys2Proof.Machine
end

section
/-! Sums and differences of bytes (spec/40_arithmetic_logic.md R140, R141): the bit formulas of AddFlags and SubFlags are
carries of `BitVec.carry`, which the arithmetic statements count. A carry or borrow `c` is the byte `(BitVec.ofBool c).setWidth 8`. -/
namespace Sys2Proof.Machine

/-! ### Bytes as numbers -/

theorem sign_eq_decide (a : Byte) : a.getLsbD 7 = decide (128 ≤ a.toNat) := by
  rw [← BitVec.msb_eq_getLsbD_last a, BitVec.msb_eq_decide]

theorem byte_toInt (a : Byte) : a.toInt = if a.toNat < 128 then (a.toNat : Int) else a.toNat - 256 := by
  rw [BitVec.toInt_eq_toNat_cond]
  split <;> split <;> omega

theorem toNat_carry_byte (c : Bool) : ((BitVec.ofBool c).setWidth 8 : Byte).toNat = c.toNat := by
  cases c <;> rfl

theorem carry_byte_false : (BitVec.ofBool false).setWidth 8 = 0#8 := rfl

theorem toNat_not_carry (c : Bool) : (!c).toNat = 1 - c.toNat := by
  cases c <;> rfl

theorem toNat_sum (a b : Byte) (c : Bool) :
    (a + b + (BitVec.ofBool c).setWidth 8).toNat = (a.toNat + b.toNat + c.toNat) % 256 := by
  rw [BitVec.toNat_add, BitVec.toNat_add, toNat_carry_byte, Nat.mod_add_mod]

theorem toNat_diff (a b : Byte) (c : Bool) :
    (a - b - (BitVec.ofBool c).setWidth 8).toNat = (a.toNat + 512 - b.toNat - c.toNat) % 256 := by
  have hc := Bool.toNat_le c
  rw [BitVec.toNat_sub, BitVec.toNat_sub, toNat_carry_byte]
  omega

/-- A difference is the sum with the complement and the complemented borrow. -/
theorem diff_eq_sum_not (a b : Byte) (c : Bool) :
    a - b - (BitVec.ofBool c).setWidth 8 = a + ~~~b + (BitVec.ofBool !c).setWidth 8 := by
  apply BitVec.eq_of_toNat_eq
  rw [toNat_diff, toNat_sum, BitVec.toNat_not, toNat_not_carry]
  have hc := Bool.toNat_le c
  omega

/-! ### Carries and borrows -/

/-- The carry formula of R140 at bit `k` is the carry into bit `k` + 1. -/
theorem carryAt_sum (a b : Byte) (c : Bool) {k : Nat} (hk : k < 8) :
    carryAt a b (a + b + (BitVec.ofBool c).setWidth 8) k = BitVec.carry (k + 1) a b c := by
  rw [carryAt, BitVec.getLsbD_add_add_bool hk, BitVec.carry_succ]
  cases a.getLsbD k <;> cases b.getLsbD k <;> cases BitVec.carry k a b c <;> rfl

/-- The borrow formula of R141 at bit `k` says that the sum with the complement has no carry there. -/
theorem borrowAt_eq_not_carryAt (a b r : Byte) {k : Nat} (hk : k < 8) : borrowAt a b r k = !carryAt a (~~~b) r k := by
  rw [borrowAt, carryAt, BitVec.getLsbD_not, decide_eq_true hk, Bool.true_and]
  cases a.getLsbD k <;> cases b.getLsbD k <;> cases r.getLsbD k <;> rfl

theorem borrowAt_diff (a b : Byte) (c : Bool) {k : Nat} (hk : k < 8) :
    borrowAt a b (a - b - (BitVec.ofBool c).setWidth 8) k = !BitVec.carry (k + 1) a (~~~b) (!c) := by
  rw [borrowAt_eq_not_carryAt _ _ _ hk, diff_eq_sum_not, carryAt_sum _ _ _ hk]

theorem carryAt_sum_three (a b : Byte) (c : Bool) :
    carryAt a b (a + b + (BitVec.ofBool c).setWidth 8) 3 = decide (16 ≤ a.toNat % 16 + b.toNat % 16 + c.toNat) :=
  carryAt_sum a b c (by decide)

theorem carryAt_sum_seven (a b : Byte) (c : Bool) :
    carryAt a b (a + b + (BitVec.ofBool c).setWidth 8) 7 = decide (256 ≤ a.toNat + b.toNat + c.toNat) := by
  rw [carryAt_sum a b c (by decide), BitVec.carry, Nat.mod_eq_of_lt a.isLt, Nat.mod_eq_of_lt b.isLt]

theorem borrowAt_diff_three (a b : Byte) (c : Bool) :
    borrowAt a b (a - b - (BitVec.ofBool c).setWidth 8) 3 = decide (a.toNat % 16 < b.toNat % 16 + c.toNat) := by
  have hc := Bool.toNat_le c
  rw [borrowAt_diff a b c (by decide), BitVec.carry, BitVec.toNat_not, toNat_not_carry, ← decide_not, decide_eq_decide]
  omega

theorem borrowAt_diff_seven (a b : Byte) (c : Bool) :
    borrowAt a b (a - b - (BitVec.ofBool c).setWidth 8) 7 = decide (a.toNat < b.toNat + c.toNat) := by
  have hc := Bool.toNat_le c
  rw [borrowAt_diff a b c (by decide), BitVec.carry, BitVec.toNat_not, toNat_not_carry, ← decide_not, decide_eq_decide]
  omega

/-! ### Overflow -/

theorem overflow_sum (a b : Byte) (c : Bool) :
    let r := a + b + (BitVec.ofBool c).setWidth 8
    ((a.getLsbD 7 && b.getLsbD 7 && !r.getLsbD 7) || (!a.getLsbD 7 && !b.getLsbD 7 && r.getLsbD 7))
      = decide (a.toInt + b.toInt + c.toNat < -128 ∨ 127 < a.toInt + b.toInt + c.toNat) := by
  have hc := Bool.toNat_le c
  simp only [sign_eq_decide, toNat_sum, byte_toInt, ← decide_not, ← Bool.decide_and, ← Bool.decide_or, decide_eq_decide]
  omega

theorem overflow_diff (a b : Byte) (c : Bool) :
    let r := a - b - (BitVec.ofBool c).setWidth 8
    ((a.getLsbD 7 && !b.getLsbD 7 && !r.getLsbD 7) || (!a.getLsbD 7 && b.getLsbD 7 && r.getLsbD 7))
      = decide (a.toInt - b.toInt - c.toNat < -128 ∨ 127 < a.toInt - b.toInt - c.toNat) := by
  have hc := Bool.toNat_le c
  simp only [sign_eq_decide, toNat_diff, byte_toInt, ← decide_not, ← Bool.decide_and, ← Bool.decide_or, decide_eq_decide]
  omega

/-! ### AddFlags and SubFlags -/

theorem beq_zero_eq_decide (r : Byte) : (r == 0#8) = decide (r.toNat = 0) := by
  rw [Bool.beq_eq_decide_eq, decide_eq_decide, BitVec.toNat_eq, BitVec.toNat_zero]

theorem addFlags_sum (old a b : Byte) (c : Bool) :
    addFlags old a b (a + b + (BitVec.ofBool c).setWidth 8) = sumSreg old a b c.toNat := by
  rw [addFlags, setHSVNZC, carryAt_sum_three, carryAt_sum_seven, overflow_sum, sign_eq_decide, beq_zero_eq_decide, toNat_sum]
  rfl

theorem subFlags_diff (old a b : Byte) (c keepZ : Bool) :
    subFlags old a b (a - b - (BitVec.ofBool c).setWidth 8) keepZ = diffSreg old a b c.toNat keepZ := by
  rw [subFlags, setHSVNZC, borrowAt_diff_three, borrowAt_diff_seven, overflow_diff, sign_eq_decide,
    beq_zero_eq_decide, toNat_diff]
  rfl

theorem subFlags_no_borrow (old a b : Byte) (keepZ : Bool) : subFlags old a b (a - b) keepZ = diffSreg old a b 0 keepZ := by
  have h := subFlags_diff old a b false keepZ
  rwa [carry_byte_false, BitVec.sub_zero] at h

theorem carry_byte_eq_ite (c : Bool) : (if c then 1#8 else 0#8) = (BitVec.ofBool c).setWidth 8 := by
  cases c <;> rfl

theorem ite_eq_toNat (c : Bool) : (if c then 1 else 0) = c.toNat := by cases c <;> rfl

/-- Settles O1: the formulas by definition, their arithmetic meaning by the carries and the overflow of the sum. -/
theorem addFlagsMeaning : Obligations.AddFlagsMeaning := by
  intro old a b cin
  dsimp only
  rw [carry_byte_eq_ite, ite_eq_toNat]
  exact ⟨rfl, addFlags_sum old a b cin⟩

/-- Settles O2: the formulas by definition, their arithmetic meaning by the borrows and the overflow of the difference. -/
theorem subFlagsMeaning : Obligations.SubFlagsMeaning := by
  intro old a b bin keepZ
  dsimp only
  rw [carry_byte_eq_ite, ite_eq_toNat]
  refine ⟨?_, subFlags_diff old a b bin keepZ⟩
  cases keepZ
  · rw [subFlags, Bool.not_false, Bool.true_or, Bool.and_true]
    rfl
  · rfl

end Sys2Proof.Machine
end

section
/-! The additions and subtractions (spec/40_arithmetic_logic.md R143 to R150, spec/45_bit_and_bit_test.md R341, R343): results as
numbers, flags by the arithmetic statements. -/
namespace Sys2Proof.Machine

/-! ### Words and results -/

/-- An instruction of one word has that word as its box. -/
theorem encode_eq_box {i : Instr} {w : Word16} (hbox : w = BitVec.ofNat 16 (encodeFirst i)) (hone : encodeSecond i = none) :
    encode i = [w] := by
  rw [encode, hone, hbox]
  rfl

theorem sum_eq_ofNat (a b : Byte) (c : Bool) :
    a + b + (BitVec.ofBool c).setWidth 8 = BitVec.ofNat 8 (a.toNat + b.toNat + c.toNat) := by
  apply BitVec.eq_of_toNat_eq
  rw [toNat_sum, BitVec.toNat_ofNat]

theorem diff_eq_ofInt (a b : Byte) (c : Bool) :
    a - b - (BitVec.ofBool c).setWidth 8 = BitVec.ofInt 8 (a.toNat - b.toNat - c.toNat) := by
  have hc := Bool.toNat_le c
  apply BitVec.eq_of_toNat_eq
  rw [toNat_diff, BitVec.toNat_ofInt]
  omega

theorem carryNat_eq_toNat (s : State) : s.carryNat = (s.flag .c).toNat := ite_eq_toNat _

/-- A sum put in x[d] with its flags, as ADC does with the carry and ADD without one. -/
theorem finish_sum (s : State) (d : Reg) (a b : Byte) (c : Bool) :
    let r := a + b + (BitVec.ofBool c).setWidth 8
    s.finish d r (addFlags s.sreg a b r)
      = s.computed d (BitVec.ofNat 8 (a.toNat + b.toNat + c.toNat)) (sumSreg s.sreg a b c.toNat) := by
  dsimp only
  rw [addFlags_sum, sum_eq_ofNat]
  rfl

/-- A difference put in x[d] with its flags, as SBC and SBCI do with the borrow and SUB and SUBI without one. -/
theorem finish_diff (s : State) (d : Reg) (a b : Byte) (c keepZ : Bool) :
    let r := a - b - (BitVec.ofBool c).setWidth 8
    s.finish d r (subFlags s.sreg a b r keepZ)
      = s.computed d (BitVec.ofInt 8 (a.toNat - b.toNat - c.toNat)) (diffSreg s.sreg a b c.toNat keepZ) := by
  dsimp only
  rw [subFlags_diff, diff_eq_ofInt]
  rfl

/-! ### Sums -/

theorem execAdd_eq (d r : Reg) (s : State) :
    execAdd d r s = .next (s.computed d (BitVec.ofNat 8 ((s.reg d).toNat + (s.reg r).toNat))
      (sumSreg s.sreg (s.reg d) (s.reg r) 0)) := by
  have h := finish_sum s d (s.reg d) (s.reg r) false
  rw [carry_byte_false, BitVec.add_zero] at h
  exact congrArg _ h

theorem execAdc_eq (d r : Reg) (s : State) :
    execAdc d r s = .next (s.computed d (BitVec.ofNat 8 ((s.reg d).toNat + (s.reg r).toNat + s.carryNat))
      (sumSreg s.sreg (s.reg d) (s.reg r) s.carryNat)) := by
  rw [carryNat_eq_toNat]
  exact congrArg _ (finish_sum s d (s.reg d) (s.reg r) (s.flag .c))

/-- A byte shifted left with the carry `c` shifted in is twice the byte and the carry. -/
theorem shiftLeft_or_eq_ofNat (a : Byte) (c : Bool) :
    a <<< 1 ||| (BitVec.ofBool c).setWidth 8 = BitVec.ofNat 8 (2 * a.toNat + c.toNat) := by
  rw [← add_self_add_carry, sum_eq_ofNat, Nat.two_mul]

theorem execLsl_eq (d : Reg) (s : State) :
    let a := s.reg d
    let v := BitVec.ofNat 8 (2 * a.toNat)
    execLsl d s = .next (s.computed d v
      (setHSVNZC s.sreg (a.getLsbD 3) (v.getLsbD 7 ^^ a.getLsbD 7) (v.getLsbD 7) (v == 0#8) (a.getLsbD 7))) := by
  have hshift := shiftLeft_or_eq_ofNat (s.reg d) false
  rw [carry_byte_false, BitVec.or_zero] at hshift
  dsimp only [execLsl]
  rw [hshift]
  rfl

theorem execRol_eq (d : Reg) (s : State) :
    let a := s.reg d
    let v := BitVec.ofNat 8 (2 * a.toNat + s.carryNat)
    execRol d s = .next (s.computed d v
      (setHSVNZC s.sreg (a.getLsbD 3) (v.getLsbD 7 ^^ a.getLsbD 7) (v.getLsbD 7) (v == 0#8) (a.getLsbD 7))) := by
  dsimp only [execRol]
  rw [State.carryByte, shiftLeft_or_eq_ofNat, ← carryNat_eq_toNat]
  rfl

/-- Settles O3: each instruction by its equation, its word by the box of its format. -/
theorem additions : Obligations.Additions := fun d r s =>
  ⟨⟨execAdd_eq d r s, encode_eq_box (boxRR_eq _ d r) rfl⟩, ⟨execAdc_eq d r s, encode_eq_box (boxRR_eq _ d r) rfl⟩,
    ⟨execLsl_eq d s, encode_eq_box (boxRR_eq _ d d) rfl⟩, ⟨execRol_eq d s, encode_eq_box (boxRR_eq _ d d) rfl⟩⟩

/-! ### Differences -/

/-- A difference with no borrow in, as SUB and SUBI put it in x[d]. -/
theorem finish_diff_no_borrow (s : State) (d : Reg) (a b : Byte) :
    s.finish d (a - b) (subFlags s.sreg a b (a - b) false)
      = s.computed d (BitVec.ofInt 8 (a.toNat - b.toNat - (0 : Nat))) (diffSreg s.sreg a b 0 false) := by
  have h := finish_diff s d a b false false
  rwa [carry_byte_false, BitVec.sub_zero] at h

/-- A difference with the carry as borrow in, as SBC and SBCI put it in x[d]. -/
theorem finish_diff_carry (s : State) (d : Reg) (a b : Byte) :
    s.finish d (a - b - s.carryByte) (subFlags s.sreg a b (a - b - s.carryByte) true)
      = s.computed d (BitVec.ofInt 8 (a.toNat - b.toNat - s.carryNat)) (diffSreg s.sreg a b s.carryNat true) := by
  rw [carryNat_eq_toNat]
  exact finish_diff s d a b (s.flag .c) true

/-- Settles O4: each instruction by its difference, its word by the box of its format. -/
theorem subtractions : Obligations.Subtractions := fun d r k s =>
  have without b := congrArg Host.Outcome.next (finish_diff_no_borrow s d (s.reg d) b)
  have withCarry b := congrArg Host.Outcome.next (finish_diff_carry s d (s.reg d) b)
  ⟨⟨without _, encode_eq_box (boxRR_eq _ d r) rfl⟩, ⟨without k, fun hd => encode_eq_box (boxRI_eq _ d k hd) rfl⟩,
    ⟨withCarry _, encode_eq_box (boxRR_eq _ d r) rfl⟩, ⟨withCarry k, fun hd => encode_eq_box (boxRI_eq _ d k hd) rfl⟩⟩

end Sys2Proof.Machine
end

section
/-! ADIW and SBIW (spec/40_arithmetic_logic.md R145, R150): a constant below 64 keeps the bit formulas of C and V equal to
the carry or borrow and the signed overflow of 16 bits. -/
namespace Sys2Proof.Machine

theorem word_sign_eq_decide (w : Word16) : w.getLsbD 15 = decide (32768 ≤ w.toNat) := by
  rw [← BitVec.msb_eq_getLsbD_last w, BitVec.msb_eq_decide]

theorem word_beq_zero_eq_decide (w : Word16) : (w == 0#16) = decide (w.toNat = 0) := by
  rw [Bool.beq_eq_decide_eq, decide_eq_decide, BitVec.toNat_eq, BitVec.toNat_zero]

/-- The end of ADIW and SBIW with the pair's result as a number. -/
theorem finishPair_ofNat (s : State) (d : Reg) (n : Nat) (f : Byte) :
    s.finishPair d (BitVec.ofNat 16 n) f = { s with regs := pairRegs s.regs d n, sreg := f, pc := s.pcAfter 1 } := by
  rw [State.finishPair, setPair_ofNat]
  rfl

theorem adiwFlags_eq (old : Byte) (a : Word16) (k : Fin 64) {x : Nat} (hx : x = (a.toNat + k.val) % 65536) :
    adiwFlags old a (BitVec.ofNat 16 x)
      = setSVNZC old (decide (a.toNat < 32768 ∧ 32768 ≤ a.toNat + k.val)) (decide (32768 ≤ x)) (decide (x = 0))
          (decide (65536 ≤ a.toNat + k.val)) := by
  have hr : (BitVec.ofNat 16 x).toNat = x := by rw [BitVec.toNat_ofNat]; omega
  have hv : (!decide (32768 ≤ a.toNat) && decide (32768 ≤ x)) = decide (a.toNat < 32768 ∧ 32768 ≤ a.toNat + k.val) := by
    rw [← decide_not, ← Bool.decide_and, decide_eq_decide]
    omega
  have hc : (!decide (32768 ≤ x) && decide (32768 ≤ a.toNat)) = decide (65536 ≤ a.toNat + k.val) := by
    rw [← decide_not, ← Bool.decide_and, decide_eq_decide]
    omega
  rw [adiwFlags, word_sign_eq_decide, word_sign_eq_decide, word_beq_zero_eq_decide, hr, hv, hc]

theorem sbiwFlags_eq (old : Byte) (a : Word16) (k : Fin 64) {x : Nat} (hx : x = (a.toNat + 65536 - k.val) % 65536) :
    sbiwFlags old a (BitVec.ofNat 16 x)
      = setSVNZC old (decide (32768 ≤ a.toNat ∧ a.toNat - k.val < 32768)) (decide (32768 ≤ x)) (decide (x = 0))
          (decide (a.toNat < k.val)) := by
  have hr : (BitVec.ofNat 16 x).toNat = x := by rw [BitVec.toNat_ofNat]; omega
  have hv : (decide (32768 ≤ a.toNat) && !decide (32768 ≤ x)) = decide (32768 ≤ a.toNat ∧ a.toNat - k.val < 32768) := by
    rw [← decide_not, ← Bool.decide_and, decide_eq_decide]
    omega
  have hc : (decide (32768 ≤ x) && !decide (32768 ≤ a.toNat)) = decide (a.toNat < k.val) := by
    rw [← decide_not, ← Bool.decide_and, decide_eq_decide]
    omega
  rw [sbiwFlags, word_sign_eq_decide, word_sign_eq_decide, word_beq_zero_eq_decide, hr, hv, hc]

theorem add_constant_eq_ofNat (a : Word16) (k : Fin 64) :
    a + BitVec.ofNat 16 k.val = BitVec.ofNat 16 ((a.toNat + k.val) % 65536) := by
  apply BitVec.eq_of_toNat_eq
  simp only [BitVec.toNat_add, BitVec.toNat_ofNat]
  omega

theorem sub_constant_eq_ofNat (a : Word16) (k : Fin 64) :
    a - BitVec.ofNat 16 k.val = BitVec.ofNat 16 ((a.toNat + 65536 - k.val) % 65536) := by
  apply BitVec.eq_of_toNat_eq
  simp only [BitVec.toNat_sub, BitVec.toNat_ofNat]
  omega

/-- Settles O6: the pair's result as a number, then the flags of that number. -/
theorem wordImmediates : Obligations.WordImmediates := by
  intro d k s
  dsimp only
  rw [← pair_toNat]
  refine ⟨⟨?_, fun hd he => encode_eq_box (boxIW_eq _ d k hd he) rfl⟩,
    ⟨?_, fun hd he => encode_eq_box (boxIW_eq _ d k hd he) rfl⟩⟩
  · change execAdiw d k s = _
    rw [execAdiw, add_constant_eq_ofNat, adiwFlags_eq _ _ k rfl, finishPair_ofNat]
  · change execSbiw d k s = _
    rw [execSbiw, sub_constant_eq_ofNat, sbiwFlags_eq _ _ k rfl, finishPair_ofNat]

end Sys2Proof.Machine
end

section
/-! COM, NEG, INC and DEC (spec/40_arithmetic_logic.md R156, R157, R160, R161): each result as a number, and V, set by
one operand alone. -/
namespace Sys2Proof.Machine

theorem com_eq_ofNat (a : Byte) : 0xFF#8 - a = BitVec.ofNat 8 (255 - a.toNat) := by bv_omega

theorem neg_eq_ofNat (a : Byte) : 0#8 - a = BitVec.ofNat 8 (256 - a.toNat) := by bv_omega

theorem inc_eq_ofNat (a : Byte) : a + 1#8 = BitVec.ofNat 8 (a.toNat + 1) := by bv_omega

theorem dec_eq_ofNat (a : Byte) : a - 1#8 = BitVec.ofNat 8 (a.toNat + 255) := by bv_omega

/-- A borrow from 0 at bit `k` comes from a bit of the operand or of the result (R157, the formulas of H and C). -/
theorem borrowAt_zero (a r : Byte) (k : Nat) : borrowAt 0#8 a r k = (r.getLsbD k || a.getLsbD k) := by
  rw [borrowAt, BitVec.getLsbD_zero]
  cases a.getLsbD k <;> cases r.getLsbD k <;> rfl

theorem neg_overflow (a : Byte) : (0#8 - a == 0x80#8) = decide (a = 0x80#8) := by
  rw [Bool.beq_eq_decide_eq, decide_eq_decide]
  bv_omega

theorem neg_carry (a : Byte) : (0#8 - a != 0#8) = decide (a ≠ 0#8) := by
  rw [bne, Bool.beq_eq_decide_eq, ← decide_not, decide_eq_decide]
  bv_omega

/-- The six flags of NEG are those of the subtraction from 0 (R157). -/
theorem negFlags_eq_subFlags (old a : Byte) : negFlags old a (0#8 - a) = subFlags old 0#8 a (0#8 - a) false := by
  have hv : (0#8 - a == 0x80#8) = ((0#8 - a).getLsbD 7 && a.getLsbD 7) := by
    rw [neg_overflow, sign_eq_decide, sign_eq_decide, ← Bool.decide_and, decide_eq_decide]
    bv_omega
  have hc : (0#8 - a != 0#8) = ((0#8 - a).getLsbD 7 || a.getLsbD 7) := by
    rw [neg_carry, sign_eq_decide, sign_eq_decide, ← Bool.decide_or, decide_eq_decide]
    bv_omega
  rw [negFlags, subFlags, borrowAt_zero, borrowAt_zero, hv, hc, BitVec.getLsbD_zero]
  congr 1
  · cases (0#8 - a).getLsbD 7 <;> cases a.getLsbD 7 <;> rfl
  · exact (Bool.and_true _).symm

theorem execNeg_eq (d : Reg) (s : State) :
    let a := s.reg d
    let v := BitVec.ofNat 8 (256 - a.toNat)
    execNeg d s = .next (s.computed d v (setHSVNZC s.sreg (v.getLsbD 3 || a.getLsbD 3) (decide (a = 0x80#8)) (v.getLsbD 7)
      (v == 0#8) (decide (a ≠ 0#8)))) := by
  dsimp only
  rw [execNeg, negFlags, neg_overflow, neg_carry, neg_eq_ofNat]
  rfl

/-- NEG is the subtraction from 0, flags included (R157). -/
theorem execNeg_eq_diff (d : Reg) (s : State) :
    execNeg d s = .next (s.computed d (BitVec.ofNat 8 (256 - (s.reg d).toNat)) (diffSreg s.sreg 0#8 (s.reg d) 0 false)) := by
  rw [execNeg, negFlags_eq_subFlags, subFlags_no_borrow, neg_eq_ofNat]
  rfl

theorem inc_overflow (a : Byte) : (a + 1#8 == 0x80#8) = decide (a = 0x7F#8) := by
  rw [Bool.beq_eq_decide_eq, decide_eq_decide]
  bv_omega

theorem dec_overflow (a : Byte) : (a - 1#8 == 0x7F#8) = decide (a = 0x80#8) := by
  rw [Bool.beq_eq_decide_eq, decide_eq_decide]
  bv_omega

theorem execCom_eq (d : Reg) (s : State) :
    let v := BitVec.ofNat 8 (255 - (s.reg d).toNat)
    execCom d s = .next (s.computed d v (setSVNZC s.sreg false (v.getLsbD 7) (v == 0#8) true)) := by
  dsimp only
  rw [execCom, com_eq_ofNat]
  rfl

theorem execInc_eq (d : Reg) (s : State) :
    let a := s.reg d
    let v := BitVec.ofNat 8 (a.toNat + 1)
    execInc d s = .next (s.computed d v (setSVNZ s.sreg (decide (a = 0x7F#8)) (v.getLsbD 7) (v == 0#8))) := by
  dsimp only
  rw [execInc, incFlags, inc_overflow, inc_eq_ofNat]
  rfl

theorem execDec_eq (d : Reg) (s : State) :
    let a := s.reg d
    let v := BitVec.ofNat 8 (a.toNat + 255)
    execDec d s = .next (s.computed d v (setSVNZ s.sreg (decide (a = 0x80#8)) (v.getLsbD 7) (v == 0#8))) := by
  dsimp only
  rw [execDec, decFlags, dec_overflow, dec_eq_ofNat]
  rfl

/-- Settles O8: each instruction by its equation, its word by the box of its format. -/
theorem oneOperand : Obligations.OneOperand := fun d s =>
  ⟨⟨execCom_eq d s, encode_eq_box (boxR1_eq _ d) rfl⟩,
    ⟨execNeg_eq d s, execNeg_eq_diff d s, encode_eq_box (boxR1_eq _ d) rfl⟩,
    ⟨execInc_eq d s, encode_eq_box (boxR1_eq _ d) rfl⟩, ⟨execDec_eq d s, encode_eq_box (boxR1_eq _ d) rfl⟩⟩

end Sys2Proof.Machine
end

section
/-! The logic instructions (spec/40_arithmetic_logic.md R142, R151 to R163). -/
namespace Sys2Proof.Machine

/-- A logic instruction puts its result in x[d]; LogicFlags keeps H, C, T and I, clears V, and S is then N (R142). -/
theorem logicResult_eq (s : State) (d : Reg) (v : Byte) :
    logicResult s d v = .next (s.computed d v
      (packFlags (s.sreg.getLsbD 7) (s.sreg.getLsbD 6) (s.sreg.getLsbD 5) (v.getLsbD 7) false (v.getLsbD 7) (v == 0#8)
        (s.sreg.getLsbD 0))) := by
  rw [logicResult, logicFlags, setSVNZ, setSVNZC, setHSVNZC, Bool.xor_false]
  rfl

/-- Settles O7: each result bit by bit, then its flags; CBR is ANDI with the complement, CLR is EOR of a register with itself. -/
theorem logicOperations : Obligations.LogicOperations := by
  intro d r k s
  refine ⟨⟨⟨_, fun j => BitVec.getLsbD_and, logicResult_eq s d _⟩, encode_eq_box (boxRR_eq _ d r) rfl⟩,
    ⟨⟨_, fun j => BitVec.getLsbD_and, logicResult_eq s d _⟩, fun hd => encode_eq_box (boxRI_eq _ d k hd) rfl⟩,
    ⟨⟨_, fun j => BitVec.getLsbD_or, logicResult_eq s d _⟩, encode_eq_box (boxRR_eq _ d r) rfl⟩,
    ⟨⟨_, fun j => BitVec.getLsbD_or, logicResult_eq s d _⟩, fun hd => encode_eq_box (boxRI_eq _ d k hd) rfl⟩,
    ⟨⟨_, fun j => BitVec.getLsbD_xor, logicResult_eq s d _⟩, encode_eq_box (boxRR_eq _ d r) rfl⟩,
    ⟨⟨_, fun j => BitVec.getLsbD_or, logicResult_eq s d _⟩, fun hd => encode_eq_box (boxRI_eq _ d k hd) rfl⟩,
    ⟨⟨_, fun j => ?_, (execCbr_eq d k s).trans (logicResult_eq s d _)⟩, fun hd => encode_eq_box (boxRI_eq _ d _ hd) rfl⟩,
    ⟨⟨_, fun j => ?_, logicResult_eq s d _⟩, encode_eq_box (boxRR_eq _ d d) rfl⟩,
    ⟨⟨_, fun j => ?_, (execEor_self d s).symm.trans (logicResult_eq s d _)⟩, encode_eq_box (boxRR_eq _ d d) rfl⟩⟩
  · rw [BitVec.getLsbD_and, BitVec.getLsbD_not, decide_eq_true j.isLt, Bool.true_and]
  · rw [BitVec.getLsbD_and, Bool.and_self]
  · rw [BitVec.getLsbD_xor, Bool.xor_self]

end Sys2Proof.Machine
end

section
/-! The laws of sums and differences (spec/40_arithmetic_logic.md R165): what one addition or subtraction leaves in x[d], C, V
and Z, then two of them chained through the carry. -/
namespace Sys2Proof.Machine

/-! ### One byte -/

/-- The state once `a`, `b` and the carry `cin` are added into x[d], as ADD and ADC do. -/
def State.withSum (s : State) (d : Reg) (a b : Byte) (cin : Nat) : State :=
  s.computed d (BitVec.ofNat 8 (a.toNat + b.toNat + cin)) (sumSreg s.sreg a b cin)

/-- The state once `b` and the borrow `bin` are subtracted from `a` into x[d], as SUB, SUBI, SBC and SBCI do. -/
def State.withDiff (s : State) (d : Reg) (a b : Byte) (bin : Nat) (keepZ : Bool) : State :=
  s.computed d (BitVec.ofInt 8 (a.toNat - b.toNat - bin)) (diffSreg s.sreg a b bin keepZ)

theorem flagOf_packFlags (i t h s v n z c : Bool) :
    flagOf (packFlags i t h s v n z c) .c = c ∧ flagOf (packFlags i t h s v n z c) .z = z
      ∧ flagOf (packFlags i t h s v n z c) .n = n ∧ flagOf (packFlags i t h s v n z c) .v = v
      ∧ flagOf (packFlags i t h s v n z c) .s = s := by
  obtain ⟨hc, hz, hn, hv, hs, -⟩ := packFlags_bits i t h s v n z c
  exact ⟨hc, hz, hn, hv, hs⟩

theorem carry_diffSreg (old a b : Byte) (c : Nat) (keepZ : Bool) :
    flagOf (diffSreg old a b c keepZ) .c = decide (a.toNat < b.toNat + c) := by
  rw [diffSreg]
  simp only [flagOf_packFlags]

/-- S after a subtraction without borrow is the signed order (R165 (e)). -/
theorem sign_diffSreg (old a b : Byte) (keepZ : Bool) : flagOf (diffSreg old a b 0 keepZ) .s = decide (a.toInt < b.toInt) := by
  have hneg : 128 ≤ (a.toNat + 512 - b.toNat - 0) % 256 ↔ 128 ≤ (a.toInt - b.toInt) % 256 := by
    rw [byte_toInt, byte_toInt]
    omega
  have ha := byte_toInt a
  have hb := byte_toInt b
  rw [diffSreg]
  simp only [flagOf_packFlags, hneg]
  by_cases hover : a.toInt - b.toInt - (0 : Nat) < -128 ∨ 127 < a.toInt - b.toInt - (0 : Nat)
  · rw [decide_eq_true hover, Bool.xor_true, ← decide_not, decide_eq_decide]
    omega
  · rw [decide_eq_false hover, Bool.xor_false, decide_eq_decide]
    omega

theorem carryNat_le (s : State) : s.carryNat ≤ 1 := by
  rw [carryNat_eq_toNat]
  exact Bool.toNat_le _

section
variable (s : State) (d : Reg) (a b : Byte) (c : Nat) (keepZ : Bool)

theorem reg_computed (v f : Byte) (j : Reg) : (s.computed d v f).reg j = if j = d then v else s.reg j :=
  State.reg_finish s d j v f

theorem reg_withSum_of_ne {j : Reg} (h : j ≠ d) : (s.withSum d a b c).reg j = s.reg j :=
  (reg_computed ..).trans (if_neg h)

theorem reg_withDiff_of_ne {j : Reg} (h : j ≠ d) : (s.withDiff d a b c keepZ).reg j = s.reg j :=
  (reg_computed ..).trans (if_neg h)

theorem toNat_reg_withSum : ((s.withSum d a b c).reg d).toNat = (a.toNat + b.toNat + c) % 256 := by
  rw [State.withSum, reg_computed, if_pos rfl, BitVec.toNat_ofNat]

theorem toNat_reg_withDiff : (((s.withDiff d a b c keepZ).reg d).toNat : Int) = (a.toNat - b.toNat - c) % 256 := by
  rw [State.withDiff, reg_computed, if_pos rfl, BitVec.toNat_ofInt]
  omega

theorem carryNat_withSum : (s.withSum d a b c).carryNat = if 256 ≤ a.toNat + b.toNat + c then 1 else 0 := by
  rw [carryNat_eq_toNat, State.flag, State.withSum, State.computed, sumSreg]
  simp only [flagOf_packFlags, ← ite_eq_toNat, decide_eq_true_eq]

theorem carryNat_withDiff : (s.withDiff d a b c keepZ).carryNat = if a.toNat < b.toNat + c then 1 else 0 := by
  rw [carryNat_eq_toNat, State.flag, State.withDiff, State.computed, carry_diffSreg, ← ite_eq_toNat]
  simp only [decide_eq_true_eq]

/-- C is the ninth bit of a sum (R165 (a)). -/
theorem ninth_bit_withSum (hc : c ≤ 1) :
    256 * (s.withSum d a b c).carryNat + ((s.withSum d a b c).reg d).toNat = a.toNat + b.toNat + c := by
  rw [carryNat_withSum, toNat_reg_withSum]
  split <;> omega

/-- C is the borrow of a difference (R165 (b)). -/
theorem ninth_bit_withDiff (hc : c ≤ 1) :
    (((s.withDiff d a b c keepZ).reg d).toNat : Int) - 256 * (s.withDiff d a b c keepZ).carryNat = a.toNat - b.toNat - c := by
  rw [carryNat_withDiff, toNat_reg_withDiff]
  split <;> omega

theorem overflow_withSum :
    (s.withSum d a b c).flag .v = true ↔ ¬(-128 ≤ a.toInt + b.toInt + c ∧ a.toInt + b.toInt + c ≤ 127) := by
  rw [State.flag, State.withSum, State.computed, sumSreg]
  simp only [flagOf_packFlags, decide_eq_true_eq]
  omega

theorem overflow_withDiff :
    (s.withDiff d a b c keepZ).flag .v = true ↔ ¬(-128 ≤ a.toInt - b.toInt - c ∧ a.toInt - b.toInt - c ≤ 127) := by
  rw [State.flag, State.withDiff, State.computed, diffSreg]
  simp only [flagOf_packFlags, decide_eq_true_eq]
  omega

/-- Z of a difference says it is 0 and, where Z is kept, that it was set (R141). -/
theorem zero_withDiff (hc : c ≤ 1) : (s.withDiff d a b c keepZ).flag .z = true
    ↔ ((s.withDiff d a b c keepZ).reg d).toNat = 0 ∧ (keepZ = true → s.flag .z = true) := by
  have hres := toNat_reg_withDiff s d a b c keepZ
  have hzero : (a.toNat + 512 - b.toNat - c) % 256 = 0 ↔ ((s.withDiff d a b c keepZ).reg d).toNat = 0 := by omega
  rw [← hzero, State.flag, State.withDiff, State.computed, diffSreg]
  simp only [flagOf_packFlags, Bool.and_eq_true, Bool.or_eq_true, Bool.not_eq_true', decide_eq_true_eq, ← Bool.not_eq_true]
  exact and_congr_right fun _ => imp_iff_not_or.symm

end

/-- A flag computation that goes through `setHSVNZC` leaves S = N ⊕ V (R165 (c)). -/
theorem sign_of_next {u t : State} {old : Byte} {h v n z c : Bool} (hnext : (.next u : Res State) = .next t)
    (hflags : u.sreg = setHSVNZC old h v n z c) : t.flag .s = (t.flag .n ^^ t.flag .v) := by
  cases hnext
  simp only [State.flag, hflags, setHSVNZC, flagOf_packFlags]

/-! ### Two bytes -/

theorem add_one_ne (d : Reg) : d + 1 ≠ d := by
  simp

theorem execAll_pair {i j : Instr} {s t : State} (h : execAll [i, j] s = .next t) :
    ∃ u, exec i s = .next u ∧ exec j u = .next t := by
  obtain ⟨u, hu, hrest⟩ := Res.andThen_eq_next.1 h
  obtain ⟨v, hv, ⟨⟩⟩ := Res.andThen_eq_next.1 hrest
  exact ⟨u, hu, hv⟩

/-- A pair as a signed number: the high byte has the sign. -/
theorem pair_toInt (s : State) (d : Reg) : (s.pair d).toInt = (s.reg (d + 1)).toInt * 256 + (s.reg d).toNat := by
  rw [BitVec.toInt_eq_toNat_cond, pair_toNat, State.pairNat, byte_toInt]
  split <;> split <;> omega

section
variable {d r : Reg} {s t : State}

theorem next_of_add (h : exec (.add d r) s = .next t) : t = s.withSum d (s.reg d) (s.reg r) 0 :=
  Host.Outcome.next.inj (h.symm.trans (execAdd_eq d r s))

theorem next_of_adc (h : exec (.adc d r) s = .next t) : t = s.withSum d (s.reg d) (s.reg r) s.carryNat :=
  Host.Outcome.next.inj (h.symm.trans (execAdc_eq d r s))

theorem next_of_sub (h : exec (.sub d r) s = .next t) : t = s.withDiff d (s.reg d) (s.reg r) 0 false :=
  Host.Outcome.next.inj (h.symm.trans (congrArg _ (finish_diff_no_borrow s d _ _)))

theorem next_of_subi {k : Byte} (h : exec (.subi d k) s = .next t) : t = s.withDiff d (s.reg d) k 0 false :=
  Host.Outcome.next.inj (h.symm.trans (congrArg _ (finish_diff_no_borrow s d _ _)))

theorem next_of_sbc (h : exec (.sbc d r) s = .next t) : t = s.withDiff d (s.reg d) (s.reg r) s.carryNat true :=
  Host.Outcome.next.inj (h.symm.trans (congrArg _ (finish_diff_carry s d _ _)))

theorem next_of_sbci {k : Byte} (h : exec (.sbci d k) s = .next t) : t = s.withDiff d (s.reg d) k s.carryNat true :=
  Host.Outcome.next.inj (h.symm.trans (congrArg _ (finish_diff_carry s d _ _)))

/-- ADD then ADC adds the pairs, C and V those of the 16-bit sum (R165 (d)). -/
theorem add_adc_pair (hdr : r + 1 ≠ d) (h : execAll [.add d r, .adc (d + 1) (r + 1)] s = .next t) :
    65536 * t.carryNat + t.pairNat d = s.pairNat d + s.pairNat r
      ∧ (t.flag .v = true ↔
          ¬(-32768 ≤ (s.pair d).toInt + (s.pair r).toInt ∧ (s.pair d).toInt + (s.pair r).toInt ≤ 32767)) := by
  obtain ⟨u, hlow, hhigh⟩ := execAll_pair h
  obtain rfl := next_of_adc hhigh
  have hd1 : u.reg (d + 1) = s.reg (d + 1) := by rw [next_of_add hlow, reg_withSum_of_ne _ _ _ _ _ (add_one_ne d)]
  have hr1 : u.reg (r + 1) = s.reg (r + 1) := by rw [next_of_add hlow, reg_withSum_of_ne _ _ _ _ _ hdr]
  have low : 256 * u.carryNat + (u.reg d).toNat = (s.reg d).toNat + (s.reg r).toNat + 0 := by
    rw [next_of_add hlow]
    exact ninth_bit_withSum _ _ _ _ _ (Nat.zero_le 1)
  have high := ninth_bit_withSum u (d + 1) (u.reg (d + 1)) (u.reg (r + 1)) u.carryNat (carryNat_le u)
  have hlt := (u.reg d).isLt
  rw [overflow_withSum, pair_toInt, pair_toInt, State.pairNat, State.pairNat, State.pairNat,
    reg_withSum_of_ne _ _ _ _ _ (add_one_ne d).symm]
  rw [hd1, hr1] at high ⊢
  constructor <;> omega

/-- SUB then SBC subtracts the pairs, C, V and Z those of the 16-bit difference (R165 (d)). -/
theorem sub_sbc_pair (hdr : r + 1 ≠ d) (h : execAll [.sub d r, .sbc (d + 1) (r + 1)] s = .next t) :
    ((t.pairNat d : Int) - 65536 * t.carryNat = s.pairNat d - s.pairNat r)
      ∧ (t.flag .v = true ↔
          ¬(-32768 ≤ (s.pair d).toInt - (s.pair r).toInt ∧ (s.pair d).toInt - (s.pair r).toInt ≤ 32767))
      ∧ (t.flag .z = true ↔ t.pairNat d = 0) := by
  obtain ⟨u, hlow, hhigh⟩ := execAll_pair h
  obtain rfl := next_of_sbc hhigh
  have hd1 : u.reg (d + 1) = s.reg (d + 1) := by rw [next_of_sub hlow, reg_withDiff_of_ne _ _ _ _ _ _ (add_one_ne d)]
  have hr1 : u.reg (r + 1) = s.reg (r + 1) := by rw [next_of_sub hlow, reg_withDiff_of_ne _ _ _ _ _ _ hdr]
  have low : ((u.reg d).toNat : Int) - 256 * u.carryNat = (s.reg d).toNat - (s.reg r).toNat - (0 : Nat) := by
    rw [next_of_sub hlow]
    exact ninth_bit_withDiff _ _ _ _ _ _ (Nat.zero_le 1)
  have lowZero : u.flag .z = true ↔ (u.reg d).toNat = 0 := by
    rw [next_of_sub hlow, zero_withDiff _ _ _ _ _ _ (Nat.zero_le 1)]
    simp only [Bool.false_eq_true, false_implies, and_true]
  have high := ninth_bit_withDiff u (d + 1) (u.reg (d + 1)) (u.reg (r + 1)) u.carryNat true (carryNat_le u)
  have hlt := (u.reg d).isLt
  rw [zero_withDiff _ _ _ _ _ _ (carryNat_le u), imp_iff_right rfl, lowZero, overflow_withDiff, pair_toInt, pair_toInt,
    State.pairNat, State.pairNat, State.pairNat, reg_withDiff_of_ne _ _ _ _ _ _ (add_one_ne d).symm]
  rw [hd1, hr1] at high ⊢
  refine ⟨?_, ?_, ?_⟩ <;> omega

/-- CP orders bytes: C as unsigned and S as signed numbers (R165 (e)). -/
theorem cp_order (h : exec (.cp d r) s = .next t) :
    (t.flag .c = true ↔ (s.reg d).toNat < (s.reg r).toNat) ∧ (t.flag .s = true ↔ (s.reg d).toInt < (s.reg r).toInt) := by
  cases h
  rw [State.flag, State.flag, State.advance_sreg, State.setSreg_sreg, subFlags_no_borrow, carry_diffSreg, sign_diffSreg]
  exact ⟨decide_eq_true_iff, decide_eq_true_iff⟩

/-- COM then INC gives the byte NEG gives (R165 (f)). -/
theorem com_inc_eq_neg {u : State} (h : execAll [.com d, .inc d] s = .next t) (hneg : exec (.neg d) s = .next u) :
    t.reg d = u.reg d := by
  obtain ⟨v, hcom, hinc⟩ := execAll_pair h
  cases hcom
  cases hinc
  cases hneg
  simp only [State.reg_finish, if_true]
  bv_omega

end

/-- Settles O11: clause by clause, C as the ninth bit, S, the two-byte pairs, the orders, COM then INC. -/
theorem arithmeticLaws : Obligations.ArithmeticLaws := by
  refine ⟨?_, ?_, ?_, fun _ _ _ _ => add_adc_pair, fun _ _ _ _ => sub_sbc_pair, fun _ _ _ _ => cp_order,
    fun _ _ _ _ => com_inc_eq_neg⟩
  · rintro d r s t i (rfl | rfl) h
    · obtain rfl := next_of_add h
      simpa using ninth_bit_withSum s d (s.reg d) (s.reg r) 0 (Nat.zero_le 1)
    · obtain rfl := next_of_adc h
      simpa using ninth_bit_withSum s d (s.reg d) (s.reg r) s.carryNat (carryNat_le s)
  · rintro d r k s t i (rfl | rfl | rfl | rfl) h
    · obtain rfl := next_of_sub h
      simpa using ninth_bit_withDiff s d (s.reg d) (s.reg r) 0 false (Nat.zero_le 1)
    · obtain rfl := next_of_sbc h
      simpa using ninth_bit_withDiff s d (s.reg d) (s.reg r) s.carryNat true (carryNat_le s)
    · obtain rfl := next_of_subi h
      simpa using ninth_bit_withDiff s d (s.reg d) k 0 false (Nat.zero_le 1)
    · obtain rfl := next_of_sbci h
      simpa using ninth_bit_withDiff s d (s.reg d) k s.carryNat true (carryNat_le s)
  · intro d r k w s t i hi h
    simp only [List.mem_cons, List.not_mem_nil, or_false] at hi
    rcases hi with rfl | rfl | rfl | rfl | rfl | rfl | rfl | rfl | rfl | rfl | rfl | rfl | rfl | rfl | rfl | rfl | rfl | rfl | rfl
      | rfl | rfl <;> exact sign_of_next h rfl

end Sys2Proof.Machine
end

section
/-! The multiplies (spec/41_multiply_des.md R180 to R186): the words they compute are the exact product, shifted or not, modulo
65536. -/
namespace Sys2Proof.Machine

/-! ### Products as numbers -/

theorem mulUU_eq_ofInt (a b : Byte) : mulUU a b = BitVec.ofInt 16 (a.toNat * b.toNat) := by
  rw [mulUU, ← BitVec.ofInt_natCast, Nat.cast_mul]

/-- Twice a product, as the fractional forms write it. -/
theorem shiftLeft_one_ofInt (p : Int) : BitVec.ofInt 16 p <<< 1 = BitVec.ofInt 16 (p * 2 ^ 1) := by
  apply BitVec.eq_of_toNat_eq
  simp only [BitVec.toNat_shiftLeft, BitVec.toNat_ofInt, Nat.shiftLeft_eq]
  omega

theorem ofInt_word_eq_ofNat (p : Int) : BitVec.ofInt 16 p = BitVec.ofNat 16 (p % 65536).toNat := by
  apply BitVec.eq_of_toNat_eq
  rw [BitVec.toNat_ofInt, BitVec.toNat_ofNat]
  omega

/-- The flags of R180 with the product and what is written as numbers. -/
theorem mulFlags_ofInt (old : Byte) (p res : Int) :
    mulFlags old (BitVec.ofInt 16 p) (BitVec.ofInt 16 res)
      = setZC old (decide ((res % 65536).toNat = 0)) (decide (32768 ≤ p % 65536)) := by
  have hz : (BitVec.ofInt 16 res).toNat = (res % 65536).toNat := BitVec.toNat_ofInt _
  have hc : 32768 ≤ (BitVec.ofInt 16 p).toNat ↔ 32768 ≤ p % 65536 := by
    rw [BitVec.toNat_ofInt]
    omega
  rw [mulFlags, word_beq_zero_eq_decide, word_sign_eq_decide, hz, decide_eq_decide.2 hc]

/-! ### The six multiplies -/

/-- The state after a multiply with the product `p`, written to R1:R0 shifted left by `shift` (R180). -/
def State.multiplied (s : State) (p : Int) (shift : Nat) : State :=
  let w := (p * 2 ^ shift % 65536).toNat
  { s with
    regs := pairRegs s.regs 0 w
    sreg := setZC s.sreg (decide (w = 0)) (decide (32768 ≤ p % 65536))
    pc := s.pcAfter 1 }

theorem productResult_ofInt (s : State) (p : Int) (shift : Nat) :
    productResult s (BitVec.ofInt 16 p) (BitVec.ofInt 16 (p * 2 ^ shift)) = .next (s.multiplied p shift) := by
  rw [productResult, mulFlags_ofInt, ofInt_word_eq_ofNat (p * 2 ^ shift), finishPair_ofNat]
  rfl

/-- The end of MUL, MULS and MULSU. -/
theorem productResult_whole (s : State) {v : Word16} {p : Int} (h : v = BitVec.ofInt 16 p) :
    productResult s v v = .next (s.multiplied p 0) := by
  have hres := productResult_ofInt s p 0
  rwa [pow_zero, mul_one, ← h] at hres

/-- The end of FMUL, FMULS and FMULSU. -/
theorem productResult_fraction (s : State) {v : Word16} {p : Int} (h : v = BitVec.ofInt 16 p) :
    productResult s v (v <<< 1) = .next (s.multiplied p 1) := by
  rw [h, shiftLeft_one_ofInt]
  exact productResult_ofInt s p 1

/-- Settles O10: each product as a number and its ending, its word by the box of its format. -/
theorem multiplies : Obligations.Multiplies := fun d r s =>
  have word (o7 o3 : BitVec 1) : 16 ≤ d.val ∧ d.val ≤ 23 ∧ 16 ≤ r.val ∧ r.val ≤ 23 →
      boxMul3 o7 o3 d r = BitVec.ofNat 16 (encMul3 o7.toNat o3.toNat d r) :=
    fun ⟨hd, hd', hr, hr'⟩ => boxMul3_eq o7 o3 d r hd hd' hr hr'
  ⟨⟨productResult_whole s (mulUU_eq_ofInt _ _), encode_eq_box (boxRR_eq _ d r) rfl⟩,
    ⟨productResult_whole s rfl, fun ⟨hd, hr⟩ => encode_eq_box (boxMuls_eq d r hd hr) rfl⟩,
    ⟨productResult_whole s rfl, fun h => encode_eq_box (word 0 0 h) rfl⟩,
    ⟨productResult_fraction s (mulUU_eq_ofInt _ _), fun h => encode_eq_box (word 0 1 h) rfl⟩,
    ⟨productResult_fraction s rfl, fun h => encode_eq_box (word 1 0 h) rfl⟩,
    ⟨productResult_fraction s rfl, fun h => encode_eq_box (word 1 1 h) rfl⟩⟩

end Sys2Proof.Machine
end

section
/-! DES (spec/41_multiply_des.md R187, R188): one round as a change of state, sixteen of them through the free codings between
rounds, and a Feistel network undone by its own keys in reverse. -/
namespace Sys2Proof.Machine

/-! ### One round -/

/-- The state with the blocks of round `k` stored and the pc where it was. -/
def State.withDesRound (s : State) (k : Fin 16) : State :=
  let out := desRound (s.block 0) (s.block 8) k (s.flag .h)
  s.setBlocks out.1 out.2

/-- The state after DES `k`: the registers of the round, the pc one on. -/
def State.afterDes (s : State) (k : Fin 16) : State :=
  { s with regs := (s.withDesRound k).regs, pc := s.pcAfter 1 }

theorem exec_des (k : Fin 16) (s : State) : exec (.des k) s = .next (s.afterDes k) := by
  change execDes k s = _
  rw [execDes, setBlocks_advance]
  rfl

theorem blocks_afterDes (s : State) (k : Fin 16) :
    ((s.afterDes k).block 0, (s.afterDes k).block 8) = desRound (s.block 0) (s.block 8) k (s.flag .h) :=
  Prod.ext (setBlocks_block s _ _).1 (setBlocks_block s _ _).2

theorem sreg_afterDes (s : State) (k : Fin 16) : (s.afterDes k).sreg = s.sreg := by
  rw [State.afterDes]

theorem reg_afterDes (s : State) (k : Fin 16) {j : Reg} (hj : 16 ≤ j.val) : (s.afterDes k).reg j = s.reg j := by
  change (s.withDesRound k).reg j = _
  rw [State.withDesRound, setBlocks_reg, if_neg (by omega), if_neg (by omega)]

/-- Settles O12: the registers are those of the state with the round's blocks stored. -/
theorem desRoundEffect : Obligations.DesRoundEffect := fun k s =>
  ⟨encode_eq_box (boxDes_eq k) rfl, (s.withDesRound k).regs, exec_des k s, blocks_afterDes s k,
    fun _ => reg_afterDes s k⟩

/-! ### The algorithm as a Feistel network -/

/-- The sixteen subkeys in the order the rounds use them. -/
def desKeys (decrypt : Bool) (key : BitVec 64) : List (BitVec 48) :=
  (List.finRange 16).map fun i => desSubkey key (desKeyIndex decrypt i)

/-- The halves after the first `n` rounds. -/
def desHalvesAfter (decrypt : Bool) (key data : BitVec 64) (n : Nat) : BitVec 32 × BitVec 32 :=
  ((desKeys decrypt key).take n).foldl desHalves (desSplit data)

theorem desBlock_eq (decrypt : Bool) (key data : BitVec 64) :
    desBlock decrypt key data = desJoin ((desKeys decrypt key).foldl desHalves (desSplit data)).swap := by
  rw [desBlock, desKeys, List.foldl_map]
  rfl

theorem desHalvesAfter_succ (decrypt : Bool) (key data : BitVec 64) (i : Fin 16) :
    desHalvesAfter decrypt key data (i.val + 1)
      = desHalves (desHalvesAfter decrypt key data i.val) (desSubkey key (desKeyIndex decrypt i)) := by
  have hlen : i.val < (desKeys decrypt key).length := by simp [desKeys]
  rw [desHalvesAfter, List.take_succ_eq_append_getElem hlen, List.foldl_append]
  simp [desHalvesAfter, desKeys]

/-- A round before the last gives the next halves. -/
theorem desRoundBlock_inner (decrypt : Bool) (key data : BitVec 64) {i : Fin 16} (hi : i ≠ 15) :
    desRoundBlock decrypt key (desJoin (desHalvesAfter decrypt key data i.val)) i
      = desJoin (desHalvesAfter decrypt key data (i.val + 1)) := by
  rw [desRoundBlock, desSplit_desJoin, ← desHalvesAfter_succ]
  exact if_neg hi

/-- The last round gives the block of the algorithm. -/
theorem desRoundBlock_last (decrypt : Bool) (key data : BitVec 64) :
    desRoundBlock decrypt key (desJoin (desHalvesAfter decrypt key data (15 : Fin 16).val)) 15 = desBlock decrypt key data := by
  rw [desRoundBlock, desSplit_desJoin, ← desHalvesAfter_succ, desBlock_eq]
  exact if_pos rfl

/-- Decryption uses the subkeys of encryption in reverse. -/
theorem desKeys_decrypt (key : BitVec 64) : desKeys true key = (desKeys false key).reverse := by
  rw [desKeys, desKeys, ← List.map_reverse, List.finRange_reverse, List.map_map]
  rfl

/-- A round on exchanged halves undoes the round with the same subkey. -/
theorem desHalves_swap_desHalves (x : BitVec 32 × BitVec 32) (k : BitVec 48) :
    desHalves (desHalves x k).swap k = x.swap := by
  simp [desHalves, Prod.swap]

/-- Rounds on exchanged halves with the subkeys in reverse undo the rounds. -/
theorem foldl_desHalves_reverse (ks : List (BitVec 48)) (x : BitVec 32 × BitVec 32) :
    ks.reverse.foldl desHalves (ks.foldl desHalves x).swap = x.swap := by
  induction ks generalizing x with
  | nil => rfl
  | cons k ks ih => rw [List.foldl_cons, List.reverse_cons, List.foldl_append, ih, List.foldl_cons, List.foldl_nil,
      desHalves_swap_desHalves]

/-- Decrypting under the key of the encryption gives the block back. -/
theorem desBlock_decrypt_encrypt (key data : BitVec 64) : desBlock true key (desBlock false key data) = data := by
  rw [desBlock_eq, desBlock_eq, desSplit_desJoin, desKeys_decrypt, foldl_desHalves_reverse, Prod.swap_swap,
    desJoin_desSplit]

/-! ### Sixteen rounds -/

theorem execAll_concat {is : List Instr} {i : Instr} {s t u : State} (his : execAll is s = .next t)
    (hi : exec i t = .next u) : execAll (is ++ [i]) s = .next u := by
  induction is generalizing s with
  | nil =>
    cases his
    exact Res.andThen_eq_next.2 ⟨u, hi, rfl⟩
  | cons j js ih =>
    obtain ⟨v, hj, hjs⟩ := Res.andThen_eq_next.1 his
    exact Res.andThen_eq_next.2 ⟨v, hj, ih hjs⟩

/-- What DES leaves alone (R187), over any number of rounds. -/
structure KeepsBesideDes (s t : State) : Prop where
  reg : ∀ j : Reg, 16 ≤ j.val → t.reg j = s.reg j
  sreg : t.sreg = s.sreg

/-- `t` is `s` after the rounds before `i`: the registers hold, in the device's own coding, the joined halves and the key. -/
structure AtDesRound (s t : State) (i : Fin 16) : Prop extends KeepsBesideDes s t where
  loads : desLoad (s.flag .h) i (t.block 0, t.block 8)
    = (desJoin (desHalvesAfter (s.flag .h) (s.block 8) (s.block 0) i.val), s.block 8)

theorem atDesRound_zero (s : State) : AtDesRound s s 0 where
  reg _ _ := rfl
  sreg := rfl
  loads := by
    rw [desLoad, dif_pos (Fin.val_zero 16)]
    exact congrArg (·, s.block 8) (desJoin_desSplit _).symm

theorem KeepsBesideDes.des {s t : State} (h : KeepsBesideDes s t) (k : Fin 16) :
    KeepsBesideDes s (t.afterDes k) where
  reg j hj := (reg_afterDes t k hj).trans (h.reg j hj)
  sreg := (sreg_afterDes t k).trans h.sreg

/-- What the registers hold after one more round, in the device's own coding. -/
theorem AtDesRound.blocks {s t : State} {i : Fin 16} (h : AtDesRound s t i) :
    ((t.afterDes i).block 0, (t.afterDes i).block 8)
      = desStore (s.flag .h) i (desRoundBlock (s.flag .h) (s.block 8)
          (desJoin (desHalvesAfter (s.flag .h) (s.block 8) (s.block 0) i.val)) i, s.block 8) := by
  have hflag : t.flag .h = s.flag .h := congrArg (flagOf · .h) h.sreg
  rw [blocks_afterDes, desRound, hflag, h.loads]

theorem AtDesRound.succ {s t : State} {i : Fin 15} (h : AtDesRound s t i.castSucc) :
    AtDesRound s (t.afterDes i.castSucc) i.succ where
  toKeepsBesideDes := h.toKeepsBesideDes.des _
  loads := by
    rw [h.blocks, desLoad_desStore, desRoundBlock_inner _ _ _ (Fin.castSucc_ne_last i)]
    rfl

theorem finRange_take_succ {n : Nat} (i : Fin n) :
    (List.finRange n).take (i.val + 1) = (List.finRange n).take i.val ++ [i] := by
  have hlen : i.val < (List.finRange n).length := by simp
  rw [List.take_succ_eq_append_getElem hlen, List.getElem_finRange]
  rfl

/-- The rounds before round `i` go on. -/
theorem execAll_des_take (s : State) (i : Fin 16) :
    ∃ t, execAll (((List.finRange 16).take i.val).map Instr.des) s = .next t ∧ AtDesRound s t i := by
  induction i using Fin.induction with
  | zero => exact ⟨s, rfl, atDesRound_zero s⟩
  | succ i ih =>
    obtain ⟨t, hrun, hat⟩ := ih
    refine ⟨_, ?_, hat.succ⟩
    rw [Fin.val_succ, ← Fin.val_castSucc, finRange_take_succ i.castSucc, List.map_append]
    exact execAll_concat hrun (exec_des i.castSucc t)

/-- Settles O13: the rounds before the last by induction, then the last, which stores the result uncoded. -/
theorem desSixteenRounds : Obligations.DesSixteenRounds := by
  refine ⟨fun s => ?_, desBlock_decrypt_encrypt⟩
  obtain ⟨t, hrun, hat⟩ := execAll_des_take s 15
  have hkeeps := hat.toKeepsBesideDes.des 15
  exact ⟨_, execAll_concat hrun (exec_des 15 t),
    (congrArg Prod.fst hat.blocks).trans (desRoundBlock_last _ _ _), hkeeps.reg, hkeeps.sreg⟩

end Sys2Proof.Machine
end

section
/-! Compares and conditional branches (spec/42_branch.md R213 to R215, R220 to R240): a compare leaves the flags of its difference,
and a branch goes by one bit of SREG. -/
namespace Sys2Proof.Machine

/-! ### Compares -/

/-- A compare with no borrow in, as CP and CPI end. -/
theorem compare_no_borrow (s : State) (a b : Byte) :
    (s.setSreg (subFlags s.sreg a b (a - b) false)).advance 1
      = { s with sreg := diffSreg s.sreg a b 0 false, pc := s.pcAfter 1 } := by
  rw [subFlags_no_borrow]
  rfl

/-- A compare with the carry as borrow in, as CPC ends. -/
theorem compare_carry (s : State) (a b : Byte) :
    (s.setSreg (subFlags s.sreg a b (a - b - s.carryByte) true)).advance 1
      = { s with sreg := diffSreg s.sreg a b s.carryNat true, pc := s.pcAfter 1 } := by
  rw [State.carryByte, subFlags_diff, ← carryNat_eq_toNat]
  rfl

/-- Settles O5: each compare by its ending, its word by the box of its format. -/
theorem compares : Obligations.Compares := fun d r k s =>
  ⟨⟨congrArg _ (compare_no_borrow s _ _), encode_eq_box (boxRR_eq _ d r) rfl⟩,
    ⟨congrArg _ (compare_carry s _ _), encode_eq_box (boxRR_eq _ d r) rfl⟩,
    ⟨congrArg _ (compare_no_borrow s _ k), fun hd => encode_eq_box (boxRI_eq _ d k hd) rfl⟩⟩

/-! ### Branches -/

/-- The number `RelTarget(k)` is (R201). -/
theorem relTarget_eq (s : State) (k : Int) : relTarget s k = (((s.pc.toNat : Int) + k + 1) % 2 ^ s.cfg.pcBits).toNat := by
  rw [relTarget, Nat.cast_pow, Nat.cast_ofNat]

theorem jumpRel_eq (s : State) (k : Int) : s.jumpRel k = { s with pc := s.pcRel k } := by
  have hpos : (0 : Int) < 2 ^ s.cfg.pcBits := by positivity
  have hnonneg := Int.emod_nonneg ((s.pc.toNat : Int) + k + 1) hpos.ne'
  have hlt : relTarget s k < 2 ^ s.cfg.pcBits := by
    rw [relTarget_eq, Int.toNat_lt hnonneg, Nat.cast_pow, Nat.cast_ofNat]
    exact Int.emod_lt_of_pos _ hpos
  rw [State.jumpRel, State.setPc, Nat.mod_eq_of_lt hlt, State.pcRel, ← Int.toNat_of_nonneg hnonneg, ← relTarget_eq,
    BitVec.ofInt_natCast]

theorem branchIf_eq (s : State) (cond : Bool) (k : BitVec 7) : branchIf s cond k = s.branched cond k := by
  cases cond
  · rfl
  · exact jumpRel_eq s k.toInt

/-- An instruction that ends as a branch and has the word of a branch is that branch in full (R220, R113). -/
theorem branch_complete {i : Instr} {s : State} {cond : Bool} {k : BitVec 7} {o : BitVec 1} {b : BitNum}
    (hend : exec i s = .next (branchIf s cond k)) (hword : encodeFirst i = encBr o.toNat b k) (hone : encodeSecond i = none) :
    exec i s = .next (s.branched cond k) ∧ encode i = [boxBr7 o b k] :=
  ⟨by rw [hend, branchIf_eq], encode_eq_box (by rw [boxBr7_eq, hword]) hone⟩

/-- Settles O15: each of the twenty ends as a branch on its own SREG bit. -/
theorem conditionalBranches : Obligations.ConditionalBranches := fun _ _ _ =>
  ⟨branch_complete rfl rfl rfl, branch_complete rfl rfl rfl, branch_complete rfl rfl rfl, branch_complete rfl rfl rfl,
    branch_complete rfl rfl rfl, branch_complete rfl rfl rfl, branch_complete rfl rfl rfl, branch_complete rfl rfl rfl,
    branch_complete rfl rfl rfl, branch_complete rfl rfl rfl, branch_complete rfl rfl rfl, branch_complete rfl rfl rfl,
    branch_complete rfl rfl rfl, branch_complete rfl rfl rfl, branch_complete rfl rfl rfl, branch_complete rfl rfl rfl,
    branch_complete rfl rfl rfl, branch_complete rfl rfl rfl, branch_complete rfl rfl rfl, branch_complete rfl rfl rfl⟩

/-! ### A compare and then a branch -/

/-- Z after a subtraction without borrow says that the bytes are equal. -/
theorem zero_diffSreg (old a b : Byte) : flagOf (diffSreg old a b 0 false) .z = decide (a.toNat = b.toNat) := by
  rw [diffSreg]
  simp only [flagOf_packFlags, Bool.not_false, Bool.true_or, Bool.and_true, decide_eq_decide]
  omega

/-- The flags CP leaves, as the comparisons of R240 read them. -/
theorem cp_flags {d r : Reg} {s t : State} (h : exec (.cp d r) s = .next t) :
    t.flag .z = decide ((s.reg d).toNat = (s.reg r).toNat) ∧ t.flag .c = decide ((s.reg d).toNat < (s.reg r).toNat)
      ∧ t.flag .s = decide ((s.reg d).toInt < (s.reg r).toInt) := by
  obtain ⟨hcarry, hsign⟩ := cp_order h
  refine ⟨?_, Bool.eq_iff_iff.2 (hcarry.trans decide_eq_true_iff.symm), Bool.eq_iff_iff.2 (hsign.trans decide_eq_true_iff.symm)⟩
  cases h
  rw [State.flag, State.advance_sreg, State.setSreg_sreg, subFlags_no_borrow, zero_diffSreg]

/-- A branch whose condition says `p` is taken exactly when `p` holds. -/
theorem branch_taken_iff {i : Instr} {t : State} {cond : Bool} {k : BitVec 7} {p : Prop} [Decidable p]
    (hend : exec i t = .next (branchIf t cond k)) (hcond : cond = decide p) : exec i t = .next (t.branched (decide p) k) := by
  rw [hend, branchIf_eq, hcond]

/-- Settles O16: each branch asks for one of the flags CP leaves, or for its negation. -/
theorem compareThenBranch : Obligations.CompareThenBranch := by
  intro d r k s t h u i
  obtain ⟨hzero, hcarry, hsign⟩ := cp_flags h
  have hne : (!t.flag .z) = decide (u.1 ≠ u.2) := by rw [hzero, decide_not]
  have hnotLower : (!t.flag .c) = decide (u.2 ≤ u.1) := by rw [hcarry, ← decide_not, decide_eq_decide, not_lt]
  have hge : (!t.flag .s) = decide (i.2 ≤ i.1) := by rw [hsign, ← decide_not, decide_eq_decide, not_lt]
  exact ⟨branch_taken_iff rfl hzero, branch_taken_iff rfl hne, branch_taken_iff rfl hnotLower, branch_taken_iff rfl hnotLower,
    branch_taken_iff rfl hcarry, branch_taken_iff rfl hcarry, branch_taken_iff rfl hge, branch_taken_iff rfl hsign⟩

end Sys2Proof.Machine
end

section
/-! Jumps and skips (spec/42_branch.md R200 to R205, R212, R216 to R219). -/
namespace Sys2Proof.Machine

/-! ### Jumps -/

theorem indirectTarget_eq (s : State) : indirectTarget s = s.pairNat 30 := pair_toNat s 30

theorem extendedTarget_eq (s : State) : extendedTarget s = s.eind.toNat % 64 * 65536 + s.pairNat 30 := by
  rw [extendedTarget, pair_toNat]

/-- An instruction with an absolute address has its box and the low half of the address as its words (R116). -/
theorem encode_eq_abs {i : Instr} {o : BitVec 1} {l : BitVec 22} (hfirst : encodeFirst i = encAbs o.toNat l)
    (hsecond : encodeSecond i = some (l.setWidth 16)) : encode i = [boxAbs22 o l, l.setWidth 16] := by
  rw [encode, hfirst, hsecond, boxAbs22_eq]
  rfl

/-- Settles O14: each jump sets the pc to its target. -/
theorem jumps : Obligations.Jumps := fun k _ s =>
  ⟨⟨congrArg _ (jumpRel_eq s k.toInt), encode_eq_box (boxRel12_eq 0 k) rfl⟩,
    ⟨congrArg (fun n => Host.Outcome.next (s.setPc n)) (indirectTarget_eq s), rfl⟩,
    ⟨congrArg (fun n => Host.Outcome.next (s.setPc n)) (extendedTarget_eq s), rfl⟩, ⟨rfl, encode_eq_abs rfl rfl⟩⟩

/-! ### Skips -/

/-- `ProgWord` ends in the fault of R77 where no word stands. -/
theorem progWord_of_wordAt_none {s : State} {a : Nat} (h : wordAt s a = none) :
    progWord s a = .fault (.outOfRange .program a) := by
  unfold wordAt at h
  unfold progWord
  split at h
  · rw [if_pos ‹_›, h]
  · rw [if_neg ‹_›]

/-- The end of a skip instruction is the outcome of R200. -/
theorem skipIf_outcome (s : State) (cond : Bool) : SkipOutcome (skipIf s cond) s cond := by
  cases cond
  case false => rfl
  case true =>
    simp only [SkipOutcome, skipIf, skipLen, if_true]
    split
    next w hword =>
      rw [progWord_of_wordAt hword]
      cases htwo : isTwoWord w <;> simp only [Res.andThen_next, htwo] <;> rfl
    next hnone => rw [progWord_of_wordAt_none hnone]; rfl

/-- Settles O20: each ends as a skip on its condition. -/
theorem registerSkips : Obligations.RegisterSkips := fun d r b s =>
  ⟨⟨skipIf_outcome s _, encode_eq_box (boxRR_eq _ d r) rfl⟩, ⟨skipIf_outcome s _, encode_eq_box (boxRBit_eq _ r b) rfl⟩,
    ⟨skipIf_outcome s _, encode_eq_box (boxRBit_eq _ r b) rfl⟩⟩

/-- SBIC and SBIS once the location is read as `v`, the state then being `t` (R218, R219). -/
theorem ioSkip_outcome {a : Fin 32} {s t : State} {v : Byte} (b : BitNum) (hread : ioRead s (lowIo a) = (v, t)) :
    SkipOutcome (exec (.sbic a b) s) t (!v.getLsbD b.val) ∧ SkipOutcome (exec (.sbis a b) s) t (v.getLsbD b.val) := by
  have hclear : exec (.sbic a b) s = skipIf t (!v.getLsbD b.val) :=
    congrArg (fun p : Byte × State => skipIf p.2 (!p.1.getLsbD b.val)) hread
  have hset : exec (.sbis a b) s = skipIf t (v.getLsbD b.val) :=
    congrArg (fun p : Byte × State => skipIf p.2 (p.1.getLsbD b.val)) hread
  rw [hclear, hset]
  exact ⟨skipIf_outcome t _, skipIf_outcome t _⟩

/-- Settles O21: the location is read, for the byte the state determines or a free value, and then the skip is made. -/
theorem ioSkips : Obligations.IoSkips := fun a b _ =>
  ⟨fun _ hpeek => ioSkip_outcome b (ioRead_of_peekIo hpeek), fun hnone => ⟨_, ioSkip_outcome b (ioRead_of_none hnone)⟩,
    encode_eq_box (boxIoBit_eq _ a b) rfl, encode_eq_box (boxIoBit_eq _ a b) rfl⟩

end Sys2Proof.Machine
end

section
/-! The stack in SRAM (spec/10_state.md R31, spec/20_memory.md R75, R76): one push and one pop, a return address pushed and popped,
then what is pushed comes back. -/
namespace Sys2Proof.Machine

/-! ### Stack addresses -/

/-- `s` once `n` bytes are pushed and SRAM has become `m`. -/
def State.pushed (s : State) (n : Nat) (m : Memory) : State := { s with sram := m, sp := BitVec.ofNat 16 (s.stackDown n) }

/-- `s` once `n` bytes are popped. -/
def State.popped (s : State) (n : Nat) : State := { s with sp := BitVec.ofNat 16 (s.stackUp n) }

theorem pcBytes_cases (c : Config) : c.pcBytes = 2 ∨ c.pcBytes = 3 := by
  unfold Config.pcBytes
  split
  · exact .inl rfl
  · exact .inr rfl

/-- A value below the SP modulus is what SP holds of it. -/
theorem toNat_ofNat_sp {c : Config} {n : Nat} (h : n < c.spModulus) : (BitVec.ofNat 16 n).toNat = n := by
  rw [BitVec.toNat_ofNat]
  rcases Config.spModulus_cases c with ⟨-, hm⟩ | ⟨-, hm⟩ <;> omega

theorem spModulus_ge (c : Config) : 256 ≤ c.spModulus := by
  rcases Config.spModulus_cases c with ⟨-, hm⟩ | ⟨-, hm⟩ <;> omega

section
variable (s : State)

theorem stackDown_lt (n : Nat) : s.stackDown n < s.cfg.spModulus :=
  Nat.mod_lt _ (Nat.lt_of_lt_of_le (by decide) (spModulus_ge s.cfg))

theorem stackUp_lt (n : Nat) : s.stackUp n < s.cfg.spModulus :=
  Nat.mod_lt _ (Nat.lt_of_lt_of_le (by decide) (spModulus_ge s.cfg))

theorem spDown_stackDown {n : Nat} (hn : n < 256) :
    spDown s.cfg (BitVec.ofNat 16 (s.stackDown n)) = BitVec.ofNat 16 (s.stackDown (n + 1)) := by
  rw [spDown, toNat_ofNat_sp (stackDown_lt s n), State.stackDown, State.stackDown]
  refine congrArg (BitVec.ofNat 16) ?_
  rcases Config.spModulus_cases s.cfg with ⟨-, hm⟩ | ⟨-, hm⟩ <;> rw [hm] <;> omega

theorem spUp_stackUp (n : Nat) : spUp s.cfg (BitVec.ofNat 16 (s.stackUp n)) = BitVec.ofNat 16 (s.stackUp (n + 1)) := by
  rw [spUp, toNat_ofNat_sp (stackUp_lt s n), State.stackUp, Nat.mod_add_mod]
  rfl

/-- The addresses of two pushed bytes differ. -/
theorem stackDown_ne {i j : Nat} (hi : i < 256) (hj : j < 256) (hij : i ≠ j) : s.stackDown i ≠ s.stackDown j := by
  unfold State.stackDown
  rcases Config.spModulus_cases s.cfg with ⟨-, hm⟩ | ⟨-, hm⟩ <;> rw [hm] <;> omega

variable {s}

theorem ofNat_stackDown_zero (hsp : s.sp.toNat < s.cfg.spModulus) : BitVec.ofNat 16 (s.stackDown 0) = s.sp := by
  rw [State.stackDown, Nat.sub_zero, Nat.add_mod_right, Nat.mod_eq_of_lt hsp, BitVec.ofNat_toNat, BitVec.setWidth_eq]

theorem pushed_zero (hsp : s.sp.toNat < s.cfg.spModulus) : s.pushed 0 s.sram = s := by
  rw [State.pushed, ofNat_stackDown_zero hsp]

theorem popped_zero (hsp : s.sp.toNat < s.cfg.spModulus) : s.popped 0 = s := by
  rw [State.popped, State.stackUp, Nat.add_zero, Nat.mod_eq_of_lt hsp, BitVec.ofNat_toNat, BitVec.setWidth_eq]

/-! ### Pushes -/

/-- A push after `n` others, its byte going to SRAM (R75). -/
theorem push_pushed {n : Nat} (hn : n < 256) (hplace : dataPlace s.cfg (s.stackDown n) = .sram) (m : Memory) (v : Byte) :
    push (s.pushed n m) v = .next (s.pushed (n + 1) (m.write (s.stackDown n) v)) := by
  have hsp : (s.pushed n m).sp.toNat = s.stackDown n := toNat_ofNat_sp (stackDown_lt s n)
  have hwrite : memWrite (s.pushed n m) (s.pushed n m).sp.toNat v
      = .next { s.pushed n m with sram := m.write (s.stackDown n) v } := by
    rw [memWrite, hsp, show (s.pushed n m).cfg = s.cfg from rfl, hplace]
    rfl
  rw [push, hwrite, Res.andThen_next, State.pushed, spDown_stackDown s hn]
  rfl

/-- Only the address modulo 2^`PC_BITS` is pushed (R76). -/
theorem pushPc_mod (s : State) (a : Nat) : pushPc s (a % 2 ^ s.cfg.pcBits) = pushPc s a := by
  simp only [pushPc, returnByte, Nat.mod_mod]

/-- A return address pushed onto SRAM (R76). -/
theorem pushPc_sram (hroom : s.stackRoom s.cfg.pcBytes) (a : Nat) :
    pushPc s a = .next (s.pushed s.cfg.pcBytes (s.pushedSram (a % 2 ^ s.cfg.pcBits))) := by
  obtain ⟨hsp, hplace⟩ := hroom
  have hcases := pcBytes_cases s.cfg
  have hfirst := push_pushed (by decide) (hplace 0 (by omega)) s.sram
  have hsecond := push_pushed (by decide) (hplace 1 (by omega))
  rw [pushed_zero hsp] at hfirst
  rw [pushPc, hfirst, Res.andThen_next, hsecond, Res.andThen_next]
  rcases hcases with h | h
  · rw [if_neg (by omega), h, State.pushedSram, if_neg (by omega)]
    simp only [returnByte, pow_zero, pow_one, Nat.div_one]
  · rw [if_pos h, push_pushed (by decide) (hplace 2 (by omega)), h, State.pushedSram, if_pos h]
    simp only [returnByte, pow_zero, pow_one, Nat.div_one, Nat.reducePow]

/-! ### Pops -/

/-- A pop after `n` others, its byte standing in SRAM (R75). -/
theorem pop_popped {n : Nat} {v : Byte} (hplace : dataPlace s.cfg (s.stackUp (n + 1)) = .sram)
    (hread : s.sram.read (s.stackUp (n + 1)) = some v) : pop (s.popped n) = .next (v, s.popped (n + 1)) := by
  have hup : spUp (s.popped n).cfg (s.popped n).sp = BitVec.ofNat 16 (s.stackUp (n + 1)) := spUp_stackUp s n
  have hpeek : peek (s.popped (n + 1)) (s.stackUp (n + 1)) = some v := by
    rw [peek, show (s.popped (n + 1)).cfg = s.cfg from rfl, hplace]
    exact hread
  rw [pop, hup, toNat_ofNat_sp (stackUp_lt s (n + 1))]
  exact memRead_of_peek hpeek

/-- A return address popped from SRAM (R76). -/
theorem popPc_sram {b : Nat → Byte} (h : s.stackHolds s.cfg.pcBytes b) :
    popPc s = .next (poppedAddr s.cfg b % 2 ^ s.cfg.pcBits, s.popped s.cfg.pcBytes) := by
  obtain ⟨hsp, hbytes⟩ := h
  have hpop (i : Nat) (hi : i < s.cfg.pcBytes) : pop (s.popped i) = .next (b i, s.popped (i + 1)) :=
    pop_popped (hbytes i hi).1 (hbytes i hi).2
  have hfirst := hpop 0
  rw [popped_zero hsp] at hfirst
  rcases pcBytes_cases s.cfg with h | h
  · rw [popPc, if_neg (by omega), Res.andThen_next, hfirst (by omega), Res.andThen_next, hpop 1 (by omega), Res.andThen_next,
      h, poppedAddr, if_neg (by omega), BitVec.toNat_zero, Nat.zero_mul, Nat.zero_add]
  · rw [popPc, if_pos h, hfirst (by omega), Res.andThen_next, hpop 1 (by omega), Res.andThen_next, hpop 2 (by omega),
      Res.andThen_next, h, poppedAddr, if_pos h]

/-! ### What is pushed is popped -/

/-- Byte `j` of a pushed return address stands `j` below SP. -/
theorem read_pushedSram (s : State) (a : Nat) {j : Nat} (hj : j < s.cfg.pcBytes) :
    (s.pushedSram a).read (s.stackDown j) = some (BitVec.ofNat 8 (a / 256 ^ j)) := by
  have hcases := pcBytes_cases s.cfg
  have h01 := stackDown_ne s (i := 0) (j := 1) (by decide) (by decide) (by decide)
  have h02 := stackDown_ne s (i := 0) (j := 2) (by decide) (by decide) (by decide)
  have h12 := stackDown_ne s (i := 1) (j := 2) (by decide) (by decide) (by decide)
  have hj3 : j = 0 ∨ j = 1 ∨ j = 2 := by omega
  rw [State.pushedSram]
  rcases hj3 with rfl | rfl | rfl
  · split <;> simp [h01, h02]
  · split <;> simp [h12]
  · rw [if_pos (by omega)]
    simp

/-- The bytes of a return address give it back, the top byte first. -/
theorem poppedAddr_bytes (c : Config) {a : Nat} (ha : a < 256 ^ c.pcBytes) :
    poppedAddr c (fun i => BitVec.ofNat 8 (a / 256 ^ (c.pcBytes - 1 - i))) = a := by
  unfold poppedAddr
  rcases pcBytes_cases c with h | h <;> rw [h] at ha ⊢ <;> simp only [BitVec.toNat_ofNat] <;> norm_num at ha ⊢ <;> omega

theorem two_pow_pcBits_le {c : Config} (hc : c.wf = true) : 2 ^ c.pcBits ≤ 256 ^ c.pcBytes := by
  obtain ⟨-, hbits, -⟩ := Config.wf_pcBits hc
  rw [show 256 = 2 ^ 8 from rfl, ← pow_mul]
  refine Nat.pow_le_pow_right (by decide) ?_
  unfold Config.pcBytes
  split <;> omega

/-- What is popped first stands where the last byte was pushed. -/
theorem stackUp_of_sp {t : State} {n i : Nat} (hcfg : t.cfg = s.cfg) (hsp : t.sp = BitVec.ofNat 16 (s.stackDown n))
    (hn : n < 256) (hi : i ≤ n) : t.stackUp i = s.stackDown (n - i) := by
  rw [State.stackUp, hsp, hcfg, toNat_ofNat_sp (stackDown_lt s n), State.stackDown, State.stackDown]
  rcases Config.spModulus_cases s.cfg with ⟨-, hm⟩ | ⟨-, hm⟩ <;> rw [hm] <;> omega

/-- Popping from where a return address was pushed gives the address and SP as it was before the push. -/
theorem popPc_of_pushed {t : State} {a : Nat} (hwf : s.cfg.wf = true) (hroom : s.stackRoom s.cfg.pcBytes)
    (hcfg : t.cfg = s.cfg) (hsp : t.sp = BitVec.ofNat 16 (s.stackDown s.cfg.pcBytes)) (hsram : t.sram = s.pushedSram a)
    (ha : a < 2 ^ s.cfg.pcBits) : popPc t = .next (a, { t with sp := s.sp }) := by
  obtain ⟨hlt, hplace⟩ := hroom
  have hcases := pcBytes_cases s.cfg
  have hup {i : Nat} (hi : i ≤ s.cfg.pcBytes) : t.stackUp i = s.stackDown (s.cfg.pcBytes - i) :=
    stackUp_of_sp hcfg hsp (by omega) hi
  have hholds : t.stackHolds t.cfg.pcBytes fun i => BitVec.ofNat 8 (a / 256 ^ (t.cfg.pcBytes - 1 - i)) := by
    rw [hcfg]
    refine ⟨?_, fun i hi => ?_⟩
    · rw [hcfg, hsp, toNat_ofNat_sp (stackDown_lt s _)]
      exact stackDown_lt s _
    · rw [hcfg, hup hi, hsram, show s.cfg.pcBytes - (i + 1) = s.cfg.pcBytes - 1 - i by omega]
      exact ⟨hplace _ (by omega), read_pushedSram s a (by omega)⟩
  have htop : BitVec.ofNat 16 (t.stackUp t.cfg.pcBytes) = s.sp := by
    rw [hcfg, hup le_rfl, Nat.sub_self, ofNat_stackDown_zero hlt]
  have haddr : poppedAddr t.cfg (fun i => BitVec.ofNat 8 (a / 256 ^ (t.cfg.pcBytes - 1 - i))) % 2 ^ t.cfg.pcBits = a := by
    rw [hcfg, poppedAddr_bytes _ (Nat.lt_of_lt_of_le ha (two_pow_pcBits_le hwf)), Nat.mod_eq_of_lt ha]
  rw [popPc_sram hholds, State.popped, htop, haddr]

end

end Sys2Proof.Machine
end

section
/-! Calls and returns (spec/42_branch.md R206 to R211): each is a push or a pop of the pc around a jump. -/
namespace Sys2Proof.Machine

section
variable {s : State}

/-- A call with the stack in SRAM. -/
theorem callTo_sram (hroom : s.stackRoom s.cfg.pcBytes) (n target : Nat) :
    callTo s n target = .next (s.called ((s.pc.toNat + n) % 2 ^ s.cfg.pcBits) target) := by
  rw [callTo, pushPc_sram hroom]
  rfl

/-- A call wherever the stack lies. -/
theorem callTo_of_pushPc {t : State} {n : Nat} (h : pushPc s ((s.pc.toNat + n) % 2 ^ s.cfg.pcBits) = .next t) (target : Nat) :
    callTo s n target = .next (t.setPc target) := by
  rw [callTo, ← pushPc_mod, h, Res.andThen_next]

theorem exec_rcall (k : BitVec 12) :
    exec (.rcall k) s = callTo s 1 (((s.pc.toNat : Int) + k.toInt + 1) % 2 ^ s.cfg.pcBits).toNat :=
  congrArg (callTo s 1) (relTarget_eq s k.toInt)

theorem exec_icall : exec .icall s = callTo s 1 (s.pairNat 30) := congrArg (callTo s 1) (indirectTarget_eq s)

theorem exec_eicall : exec .eicall s = callTo s 1 (s.eind.toNat % 64 * 65536 + s.pairNat 30) :=
  congrArg (callTo s 1) (extendedTarget_eq s)

end

/-- Settles O17: each call is `callTo` with its own target. -/
theorem calls : Obligations.Calls := fun k l s => by
  refine ⟨fun hroom => ?_, fun t hpush => ?_, fun t hpush => callTo_of_pushPc hpush _, encode_eq_box (boxRel12_eq 1 k) rfl, rfl,
    rfl, encode_eq_abs rfl rfl⟩
  · rw [exec_rcall, exec_icall, exec_eicall]
    exact ⟨callTo_sram hroom 1 _, callTo_sram hroom 1 _, callTo_sram hroom 1 _, callTo_sram hroom 2 _⟩
  · rw [exec_rcall, exec_icall, exec_eicall]
    exact ⟨callTo_of_pushPc hpush _, callTo_of_pushPc hpush _, callTo_of_pushPc hpush _⟩

/-! ### Returns -/

/-- RET and RETI once the return address is popped as `a`, the state then being `t` (R210, R211). -/
theorem return_of_popPc {s t : State} {a : Nat} (h : popPc s = .next (a, t)) :
    exec .ret s = .next (t.setPc a)
      ∧ exec .reti s = .next { t.setPc a with sreg := withBit t.sreg 7 true, inhibit := true } := by
  have hret : exec .ret s = (popPc s).andThen fun p => .next (p.2.setPc p.1) := rfl
  have hreti : exec .reti s = (popPc s).andThen fun p => .next (p.2.setPc p.1).enableInterrupts := rfl
  rw [hret, hreti, h]
  exact ⟨rfl, rfl⟩

theorem setPc_mod (s : State) (n : Nat) : s.setPc (n % 2 ^ s.cfg.pcBits) = s.setPc n := by
  rw [State.setPc, Nat.mod_mod]
  rfl

/-- Settles O18: the pops, then the pc, and for RETI the two bits. -/
theorem returns : Obligations.Returns := by
  intro s b
  refine ⟨fun hholds => ?_, fun _ _ => return_of_popPc, rfl, rfl⟩
  have hpc := setPc_mod (s.popped s.cfg.pcBytes) (poppedAddr s.cfg b)
  obtain ⟨hret, hreti⟩ := return_of_popPc (popPc_sram hholds)
  exact ⟨hret.trans (congrArg _ hpc),
    hreti.trans (congrArg (fun t : State => Host.Outcome.next { t with sreg := withBit s.sreg 7 true, inhibit := true }) hpc)⟩

/-! ### A call and its return -/

/-- Each of the four calls is `callTo`, two words long for CALL and one for the others. -/
theorem exists_callTo {k : BitVec 12} {l : BitVec 22} {i : Instr} (hi : i ∈ [.rcall k, .icall, .eicall, .call l]) (s : State) :
    ∃ target, exec i s = callTo s (if i = .call l then 2 else 1) target := by
  simp only [List.mem_cons, List.not_mem_nil, or_false] at hi
  rcases hi with rfl | rfl | rfl | rfl
  · rw [if_neg nofun]
    exact ⟨_, exec_rcall k⟩
  · rw [if_neg nofun]
    exact ⟨_, exec_icall⟩
  · rw [if_neg nofun]
    exact ⟨_, exec_eicall⟩
  · rw [if_pos rfl]
    exact ⟨_, rfl⟩

/-- Settles O19: every call pushes the address RET pops, with SP back where it was. -/
theorem callThenReturn : Obligations.CallThenReturn := by
  intro s t k l i hi hwf hroom hcall n
  obtain ⟨target, hend⟩ := exists_callTo hi s
  obtain rfl : s.called ((s.pc.toNat + n) % 2 ^ s.cfg.pcBits) target = t :=
    Host.Outcome.next.inj ((callTo_sram hroom n target).symm.trans (hend.symm.trans hcall))
  have hpop := popPc_of_pushed (t := s.called _ target) hwf hroom rfl rfl rfl
    (Nat.mod_lt (s.pc.toNat + n) (Nat.two_pow_pos s.cfg.pcBits))
  exact ⟨rfl, (return_of_popPc hpop).1.trans (congrArg _ (setPc_mod { s.called _ target with sp := s.sp } _))⟩

end Sys2Proof.Machine
end

section
/-! Moves, IN and OUT (spec/43_data_transfer.md R260 to R262, R289, R290, spec/40_arithmetic_logic.md R164), and the address field of
the 16-bit LDS and STS (R264). -/
namespace Sys2Proof.Machine

/-! ### Moves -/

/-- Putting a pair in a pair puts its number there. -/
theorem setPair_pair (s : State) (d r : Reg) : s.setPair d (s.pair r) = { s with regs := pairRegs s.regs d (s.pairNat r) } := by
  rw [← setPair_ofNat, ← pair_toNat, BitVec.ofNat_toNat, BitVec.setWidth_eq]

/-- Settles O9: each puts its byte or pair in place, with SREG as it was. -/
theorem moves : Obligations.Moves := by
  intro d r k s
  have hpair : exec (.movw d r) s = .next ((s.setPair d (s.pair r)).moved 1) := rfl
  rw [setPair_pair] at hpair
  exact ⟨⟨rfl, encode_eq_box (boxRR_eq _ d r) rfl⟩, ⟨hpair, fun _ _ => encode_eq_box (boxMovw_eq d r) rfl⟩,
    ⟨rfl, fun hd => encode_eq_box (boxRI_eq _ d k hd) rfl⟩, ⟨rfl, fun hd => encode_eq_box (boxRI_eq _ d _ hd) rfl⟩⟩

/-! ### IN and OUT -/

theorem exec_ioIn {a : Fin 64} {s t : State} {v : Byte} (d : Reg) (hread : ioRead s a = (v, t)) :
    exec (.ioIn d a) s = .next (t.loaded d v 1) :=
  congrArg (fun p : Byte × State => Host.Outcome.next (p.2.loaded d p.1 1)) hread

/-- SREG answers first at its own address, on any device (R65). -/
theorem ioWrite_sreg {a : Fin 64} {s : State} (ha : a.val = s.cfg.sregIo) (v : Byte) : ioWrite s a v = s.storeSreg v := by
  have htarget : ioTarget s.cfg a = .sreg := if_pos ha
  rw [ioWrite, htarget]

/-- Settles O32: IN by what the state determines of the location, OUT by what answers at SREG's address. -/
theorem inOut : Obligations.InOut := fun d r a s =>
  ⟨fun _ hpeek => exec_ioIn d (ioRead_of_peekIo hpeek), fun hnone => ⟨_, exec_ioIn d (ioRead_of_none hnone)⟩, rfl,
    fun ha => congrArg (fun t : State => Host.Outcome.next (t.moved 1)) (ioWrite_sreg ha (s.reg r)),
    encode_eq_box (boxIO_eq 0 d a) rfl, encode_eq_box (boxIO_eq 1 r a) rfl⟩

/-! ### The short address -/

/-- The address bits of R264 as a number: bits 7 and 6 are NOT k4 and k4, bits 5 and 4 are k6 and k5. -/
theorem shortAddr_eq (k : BitVec 7) :
    shortAddr k = (1 - k.toNat / 16 % 2) * 128 + k.toNat / 16 % 2 * 64 + k.toNat / 64 % 2 * 32 + k.toNat / 32 % 2 * 16
      + k.toNat % 16 := by
  have hbit (b : Nat) : (BitVec.ofBool (k.getLsbD b)).toNat = k.toNat / 2 ^ b % 2 := by
    rw [BitVec.toNat_ofBool, BitVec.getLsbD, Nat.toNat_testBit]
  have hnot : (BitVec.ofBool (!k.getLsbD 4)).toNat = 1 - k.toNat / 2 ^ 4 % 2 := by
    rw [← hbit]
    cases k.getLsbD 4 <;> rfl
  simp only [shortAddr, toNat_append_add, toNat_extract, hbit, hnot, Nat.reducePow, Nat.div_one]
  omega

/-- The address of the field that has `k6`, `k5`, `k4` over the four low bits. -/
theorem shortAddr_ofNat {k4 k5 k6 low : Nat} (h4 : k4 < 2) (h5 : k5 < 2) (h6 : k6 < 2) (hlow : low < 16) :
    shortAddr (BitVec.ofNat 7 (k6 * 64 + k5 * 32 + k4 * 16 + low)) = (1 - k4) * 128 + k4 * 64 + k6 * 32 + k5 * 16 + low := by
  have hfield : (k6 * 64 + k5 * 32 + k4 * 16 + low) % 2 ^ 7 = k6 * 64 + k5 * 32 + k4 * 16 + low := by omega
  have hk4 : (k6 * 64 + k5 * 32 + k4 * 16 + low) / 16 % 2 = k4 := by omega
  have hk5 : (k6 * 64 + k5 * 32 + k4 * 16 + low) / 32 % 2 = k5 := by omega
  have hk6 : (k6 * 64 + k5 * 32 + k4 * 16 + low) / 64 % 2 = k6 := by omega
  rw [shortAddr_eq, BitVec.toNat_ofNat, hfield, hk4, hk5, hk6]
  omega

/-- Settles O25: the bits of the address `0x40 + n`, put back in their places, are the field of that address. -/
theorem shortAddressRange : Obligations.ShortAddressRange := by
  refine ⟨fun k => ?_, fun n => ?_, rfl, rfl, rfl, rfl⟩
  · rw [shortAddr_eq]
    omega
  · obtain ⟨k4, k5, k6, low, h4, h5, h6, hlow, hn⟩ : ∃ k4 k5 k6 low, k4 < 2 ∧ k5 < 2 ∧ k6 < 2 ∧ low < 16
        ∧ 0x40 + n.val = (1 - k4) * 128 + k4 * 64 + k6 * 32 + k5 * 16 + low :=
      ⟨1 - n.val / 64, n.val / 16 % 2, n.val / 32 % 2, n.val % 16, by omega⟩
    refine ⟨BitVec.ofNat 7 (k6 * 64 + k5 * 32 + k4 * 16 + low), ?_⟩
    rw [hn, shortAddr_ofNat h4 h5 h6 hlow]

end Sys2Proof.Machine
end

section
/-! Loads and stores (spec/20_memory.md R64, spec/43_data_transfer.md R251, R252, R263 to R288): what one byte read or written comes to
in every place of the data space, then the instructions that leave their pointer alone and those that move it. -/
namespace Sys2Proof.Machine

/-! ### One byte read or written -/

/-- A register's address always holds a byte. -/
theorem dataPlace_ne_register {s : State} {a : Nat} (hnone : peek s a = none) (d : Reg) : dataPlace s.cfg a ≠ .register d := by
  intro hplace
  rw [peek, hplace] at hnone
  cases hnone

/-- Reading a byte and going on with it has the outcome of a load (R64). -/
theorem memRead_outcome (s : State) (a : Nat) (fin : Byte → State → State) :
    LoadOutcome ((memRead s a).andThen fun p => .next (fin p.1 p.2)) s a fin := by
  unfold LoadOutcome
  split
  next v hpeek => rw [memRead_of_peek hpeek, Res.andThen_next]
  next hnone =>
    rw [memRead_of_none hnone]
    cases hplace : dataPlace s.cfg a with
    | register d => exact dataPlace_ne_register hnone d hplace
    | io i => exact ⟨_, rfl⟩
    | extIo => exact ⟨_, rfl⟩
    | flash b => rfl
    | sram => rfl
    | nowhere => rfl

/-- Writing a byte and going on has the outcome of a store (R64). -/
theorem memWrite_outcome (s : State) (a : Nat) (v : Byte) (fin : State → State) :
    StoreOutcome ((memWrite s a v).andThen fun t => .next (fin t)) s a v fin := by
  unfold StoreOutcome memWrite
  cases dataPlace s.cfg a <;> rfl

theorem loadFrom_outcome (s : State) (d : Reg) (a n : Nat) :
    LoadOutcome (loadFrom s d a n) s a (fun v t => t.loaded d v n) := memRead_outcome s a fun v t => t.loaded d v n

theorem storeTo_outcome (s : State) (a : Nat) (v : Byte) (n : Nat) :
    StoreOutcome (storeTo s a v n) s a v (fun t => t.moved n) := memWrite_outcome s a v fun t => t.moved n

/-! ### The pointer left alone -/

/-- An instruction of two words has its box and its second word (R106). -/
theorem encode_eq_box_word {i : Instr} {w k : Word16} (hbox : w = BitVec.ofNat 16 (encodeFirst i)) (htwo : encodeSecond i = some k) :
    encode i = [w, k] := by
  rw [encode, htwo, hbox]
  rfl

/-- Settles O26: each is a load from the address of its rule. -/
theorem plainLoads : Obligations.PlainLoads := fun d _ f q s =>
  ⟨⟨loadFrom_outcome s d _ 2, encode_eq_box_word (boxLdSt_eq 0 _ d) rfl⟩,
    ⟨loadFrom_outcome s d _ 1, fun hd => encode_eq_box (boxShort_eq 0 d f hd) rfl⟩,
    ⟨loadFrom_outcome s d _ 1, encode_eq_box (boxLdSt_eq 0 _ d) rfl⟩,
    ⟨loadFrom_outcome s d _ 1, encode_eq_box (boxDisp_eq 0 1 d 0) rfl⟩,
    ⟨loadFrom_outcome s d _ 1, encode_eq_box (boxDisp_eq 0 0 d 0) rfl⟩,
    ⟨loadFrom_outcome s d _ 1, encode_eq_box (boxDisp_eq 0 1 d q) rfl⟩,
    ⟨loadFrom_outcome s d _ 1, encode_eq_box (boxDisp_eq 0 0 d q) rfl⟩⟩

/-- Settles O28: each is a store of x[r] to the address of its rule. -/
theorem plainStores : Obligations.PlainStores := fun r _ f q s =>
  ⟨⟨storeTo_outcome s _ _ 2, encode_eq_box_word (boxLdSt_eq 1 _ r) rfl⟩,
    ⟨storeTo_outcome s _ _ 1, fun hr => encode_eq_box (boxShort_eq 1 r f hr) rfl⟩,
    ⟨storeTo_outcome s _ _ 1, encode_eq_box (boxLdSt_eq 1 _ r) rfl⟩,
    ⟨storeTo_outcome s _ _ 1, encode_eq_box (boxDisp_eq 1 1 r 0) rfl⟩,
    ⟨storeTo_outcome s _ _ 1, encode_eq_box (boxDisp_eq 1 0 r 0) rfl⟩,
    ⟨storeTo_outcome s _ _ 1, encode_eq_box (boxDisp_eq 1 1 r q) rfl⟩,
    ⟨storeTo_outcome s _ _ 1, encode_eq_box (boxDisp_eq 1 0 r q) rfl⟩⟩

/-! ### The pointer moved -/

section
variable {s : State} {p : Ptr} {d : Reg}

/-- The pointer one down modulo 2^W (R251). -/
theorem ptrDown_eq (s : State) (p : Ptr) :
    ptrDown s p = (ptrGet s p + 2 ^ ptrWidth s.cfg p - 1) % 2 ^ ptrWidth s.cfg p := by
  rw [ptrDown, Nat.add_sub_assoc (Nat.two_pow_pos _)]

theorem loadPostInc_outcome (howns : p.owns d = false) :
    LoadOutcome (loadPostInc s p d) s (ptrGet s p) (fun v t => (ptrSet (t.setReg d v) p (ptrUp s.cfg p (ptrGet s p))).moved 1) := by
  rw [loadPostInc, howns]
  exact memRead_outcome s _ fun v t => (ptrSet (t.setReg d v) p (ptrUp s.cfg p (ptrGet s p))).moved 1

theorem loadPreDec_outcome (howns : p.owns d = false) :
    LoadOutcome (loadPreDec s p d) (ptrSet s p (ptrDown s p)) (ptrDown s p) (fun v t => t.loaded d v 1) := by
  rw [loadPreDec, howns]
  exact loadFrom_outcome _ d _ 1

/-- R67: the Register File is in the data space and the address is that of one of the pointer's own two registers. -/
theorem ontoPointer_iff {c : Config} {a : Nat} :
    ontoPointer c p a = true ↔ c.regfileInData = true ∧ (a = p.lo.val ∨ a = p.lo.val + 1) := by
  simp only [ontoPointer, Bool.and_eq_true, Bool.or_eq_true, decide_eq_true_eq]

theorem storePostInc_outcome (howns : p.owns d = false) (honto : ¬ontoPointer s.cfg p (ptrGet s p) = true) :
    StoreOutcome (storePostInc s p d) s (ptrGet s p) (s.reg d) (fun t => (ptrSet t p (ptrUp s.cfg p (ptrGet s p))).moved 1) := by
  rw [storePostInc, howns, if_neg Bool.false_ne_true, if_neg honto]
  exact memWrite_outcome s _ _ _

theorem storePreDec_outcome (howns : p.owns d = false) (honto : ¬ontoPointer s.cfg p (ptrDown s p) = true) :
    StoreOutcome (storePreDec s p d) (ptrSet s p (ptrDown s p)) (ptrDown s p) (s.reg d) (fun t => t.moved 1) := by
  rw [storePreDec, howns, if_neg Bool.false_ne_true, if_neg honto]
  exact storeTo_outcome _ _ _ 1

theorem storePostInc_onto (howns : p.owns d = false) (honto : ontoPointer s.cfg p (ptrGet s p) = true) :
    storePostInc s p d = .fault (.undefinedUse (.storeOntoPointer p (ptrGet s p))) := by
  rw [storePostInc, howns, if_neg Bool.false_ne_true, if_pos honto]

theorem storePreDec_onto (howns : p.owns d = false) (honto : ontoPointer s.cfg p (ptrDown s p) = true) :
    storePreDec s p d = .fault (.undefinedUse (.storeOntoPointer p (ptrDown s p))) := by
  rw [storePreDec, howns, if_neg Bool.false_ne_true, if_pos honto]

/-- With its data register half of its own pointer, an instruction that moves the pointer is undefined (R252). -/
theorem undefined_of_owns (howns : p.owns d = true) (s : State) :
    loadPostInc s p d = .fault (.undefinedUse (.pointerLoad p d))
      ∧ loadPreDec s p d = .fault (.undefinedUse (.pointerLoad p d))
      ∧ storePostInc s p d = .fault (.undefinedUse (.pointerStore p d))
      ∧ storePreDec s p d = .fault (.undefinedUse (.pointerStore p d)) :=
  ⟨if_pos howns, if_pos howns, if_pos howns, if_pos howns⟩

theorem owns_of_eq (hd : d = p.lo ∨ d = p.lo + 1) : p.owns d = true := by
  simpa only [Ptr.owns, Bool.or_eq_true, beq_iff_eq] using hd

end

/-- Settles O27: a load at the old pointer, or at the pointer one down. -/
theorem pointerLoads : Obligations.PointerLoads := by
  intro d s p howns
  have hinc := loadPostInc_outcome (s := s) howns
  have hdec := loadPreDec_outcome (s := s) howns
  rw [ptrDown_eq] at hdec
  cases p <;> exact ⟨hinc, hdec, encode_eq_box (boxLdSt_eq 0 _ d) rfl, encode_eq_box (boxLdSt_eq 0 _ d) rfl⟩

/-- Settles O29: a store at the old pointer, or at the pointer one down, unless it lands on the pointer. -/
theorem pointerStores : Obligations.PointerStores := by
  intro r s p howns
  have hinc := storePostInc_outcome (s := s) howns
  have hdec := storePreDec_outcome (s := s) howns
  have hincOnto := storePostInc_onto (s := s) howns
  have hdecOnto := storePreDec_onto (s := s) howns
  rw [ptrDown_eq] at hdec hdecOnto
  rw [ontoPointer_iff] at hinc hdec hincOnto hdecOnto
  cases p <;>
    exact ⟨hinc, hdec, hincOnto, hdecOnto, encode_eq_box (boxLdSt_eq 1 _ r) rfl, encode_eq_box (boxLdSt_eq 1 _ r) rfl⟩

/-- Settles O30: the two registers of each pair are those its pointer owns. -/
theorem undefinedCombinations : Obligations.UndefinedCombinations := fun s =>
  ⟨fun _ hd => undefined_of_owns (p := .x) (owns_of_eq hd) s, fun _ hd => undefined_of_owns (p := .y) (owns_of_eq hd) s,
    fun _ hd => undefined_of_owns (p := .z) (owns_of_eq hd) s⟩

end Sys2Proof.Machine
end

section
/-! PUSH and POP (spec/43_data_transfer.md R291, R292, spec/20_memory.md R75): wherever SP points, then with the stack in SRAM. -/
namespace Sys2Proof.Machine

/-! ### Wherever SP points -/

/-- SP one down modulo 2^`SP_BITS` (R31). -/
theorem spDown_eq (c : Config) (sp : BitVec 16) : spDown c sp = BitVec.ofNat 16 ((sp.toNat + c.spModulus - 1) % c.spModulus) := by
  have hge := spModulus_ge c
  rw [spDown, Nat.add_sub_assoc (by omega)]

theorem Res.andThen_assoc {α β γ : Type} (r : Res α) (f : α → Res β) (g : β → Res γ) :
    Res.andThen (Res.andThen r f) g = Res.andThen r fun a => Res.andThen (f a) g := by
  cases r <;> rfl

/-- PUSH is a store at SP, then SP one down (R291). -/
theorem exec_push_outcome (r : Reg) (s : State) :
    StoreOutcome (exec (.push r) s) s s.sp.toNat (s.reg r) (fun t => State.moved { t with sp := spDown t.cfg t.sp } 1) := by
  have hpush : exec (.push r) s = Res.andThen (memWrite s s.sp.toNat (s.reg r)) fun t =>
      .next (State.moved { t with sp := spDown t.cfg t.sp } 1) := Res.andThen_assoc _ _ _
  rw [hpush]
  exact memWrite_outcome s _ _ _

/-- POP is SP one up, then a load there (R292). -/
theorem exec_pop_outcome (d : Reg) (s : State) :
    LoadOutcome (exec (.pop d) s) (s.popped 1) (s.stackUp 1) (fun v t => t.loaded d v 1) := by
  have hpop : exec (.pop d) s = loadFrom (s.popped 1) d (BitVec.ofNat 16 (s.stackUp 1)).toNat 1 := rfl
  rw [hpop, toNat_ofNat_sp (stackUp_lt s 1)]
  exact loadFrom_outcome _ d _ 1

/-! ### The stack in SRAM -/

section
variable {s : State}

theorem exec_push_sram (hroom : s.stackRoom 1) (r : Reg) :
    exec (.push r) s = .next ((s.pushed 1 (s.sram.write (s.stackDown 0) (s.reg r))).moved 1) := by
  obtain ⟨hsp, hplace⟩ := hroom
  have hpush := push_pushed (by decide) (hplace 0 (by decide)) s.sram (s.reg r)
  rw [pushed_zero hsp] at hpush
  exact congrArg (Res.andThen · fun t => .next (t.moved 1)) hpush

theorem exec_pop_sram {v : Byte} (hholds : s.stackHolds 1 fun _ => v) (d : Reg) :
    exec (.pop d) s = .next ((s.popped 1).loaded d v 1) := by
  obtain ⟨hsp, hbyte⟩ := hholds
  obtain ⟨hplace, hread⟩ := hbyte 0 (by decide)
  have hpop := pop_popped hplace hread
  rw [popped_zero hsp] at hpop
  exact congrArg (Res.andThen · fun p : Byte × State => .next (p.2.loaded d p.1 1)) hpop

/-- After a push the byte is the one to be popped, and its pop puts SP back. -/
theorem stackHolds_of_pushed {t : State} {v : Byte} (hroom : s.stackRoom 1) (hcfg : t.cfg = s.cfg)
    (hsp : t.sp = BitVec.ofNat 16 (s.stackDown 1)) (hsram : t.sram = s.sram.write (s.stackDown 0) v) :
    t.stackHolds 1 (fun _ => v) ∧ t.popped 1 = { t with sp := s.sp } := by
  obtain ⟨hlt, hplace⟩ := hroom
  have hup : t.stackUp 1 = s.stackDown 0 := stackUp_of_sp hcfg hsp (by decide) le_rfl
  refine ⟨⟨?_, fun i hi => ?_⟩, ?_⟩
  · rw [hcfg, hsp, toNat_ofNat_sp (stackDown_lt s 1)]
    exact stackDown_lt s 1
  · obtain rfl : i = 0 := by omega
    rw [hcfg, hup, hsram]
    exact ⟨hplace 0 (by decide), Memory.read_write_same _ _ _⟩
  · rw [State.popped, hup, ofNat_stackDown_zero hlt]

/-- PUSH and then POP: the byte comes back and SP with it. -/
theorem execAll_push_pop (hroom : s.stackRoom 1) (d r : Reg) :
    execAll [.push r, .pop d] s = .next { s with
      sram := s.sram.write (s.stackDown 0) (s.reg r)
      regs := s.regs.set d.val (s.reg r)
      pc := (s.moved 1).pcAfter 1 } := by
  obtain ⟨hholds, hpopped⟩ := stackHolds_of_pushed (v := s.reg r)
    (t := (s.pushed 1 (s.sram.write (s.stackDown 0) (s.reg r))).moved 1) hroom rfl rfl rfl
  rw [execAll, exec_push_sram hroom, Res.andThen_next, execAll, exec_pop_sram hholds, hpopped]
  rfl

theorem stackDown_zero (hsp : s.sp.toNat < s.cfg.spModulus) : s.stackDown 0 = s.sp.toNat := by
  rw [State.stackDown, Nat.sub_zero, Nat.add_mod_right, Nat.mod_eq_of_lt hsp]

end

/-- Settles O33: a store at SP and a load above it, and with the stack in SRAM the load gives back what was stored. -/
theorem pushPop : Obligations.PushPop := by
  intro d r s hsp
  have hpush := exec_push_outcome r s
  simp only [spDown_eq] at hpush
  refine ⟨hpush, exec_pop_outcome d s, fun hroom => ?_, encode_eq_box (boxLdSt_eq 1 _ r) rfl, encode_eq_box (boxLdSt_eq 0 _ d) rfl⟩
  rw [← stackDown_zero hsp]
  exact execAll_push_pop hroom d r

end Sys2Proof.Machine
end

section
/-! Program memory (spec/44_program_memory.md R320 to R330, spec/20_memory.md R61): a byte read, the loads through Z and RAMPZ : Z, a
table read by a row of loads, and SPM. -/
namespace Sys2Proof.Machine

/-! ### The bytes of Program memory -/

section
variable {s t : State} {a b : Nat} {v : Byte} {w : Word16}

theorem progByte_eq_next : progByte s b = .next v ↔ b ≤ 2 * s.cfg.flashEnd + 1 ∧ s.flash.read b = some v := by
  unfold progByte
  split
  case isTrue hb => cases s.flash.read b <;> simp [hb]
  case isFalse hb => simp [hb]

theorem progByte_above (hb : 2 * s.cfg.flashEnd + 1 < b) : progByte s b = .fault (.outOfRange .program b) :=
  if_neg (Nat.not_le.2 hb)

/-- A byte read depends on Program memory and its size only. -/
theorem progByte_congr (hcfg : t.cfg = s.cfg) (hflash : t.flash = s.flash) (b : Nat) : progByte t b = progByte s b := by
  rw [progByte, progByte, hcfg, hflash]

theorem readWord_eq_some {m : Memory} :
    m.readWord a = some w ↔ ∃ lo hi, m.read (2 * a) = some lo ∧ m.read (2 * a + 1) = some hi ∧ hi ++ lo = w := by
  unfold Memory.readWord
  cases m.read (2 * a) <;> cases m.read (2 * a + 1) <;> simp

/-- A word of Program memory is two bytes of it, the low one at the even address (R61, R330 (e)). -/
theorem wordAt_eq_some :
    wordAt s a = some w ↔ ∃ lo hi, progByte s (2 * a) = .next lo ∧ progByte s (2 * a + 1) = .next hi ∧ hi ++ lo = w := by
  simp only [progByte_eq_next]
  unfold wordAt
  split
  case isTrue ha =>
    have hlow : 2 * a ≤ 2 * s.cfg.flashEnd + 1 := by omega
    have hhigh : 2 * a + 1 ≤ 2 * s.cfg.flashEnd + 1 := by omega
    simp only [readWord_eq_some, hlow, hhigh, true_and]
  case isFalse ha =>
    have hlow : ¬2 * a ≤ 2 * s.cfg.flashEnd + 1 := by omega
    simp [hlow]

end

/-! ### The addresses and the pointer -/

theorem lpmAddr_eq (s : State) : lpmAddr s = s.pairNat 30 := pair_toNat s 30

theorem elpmAddr_eq (s : State) : elpmAddr s = s.rampZ.toNat * 65536 + s.pairNat 30 :=
  congrArg (s.rampZ.toNat * 65536 + ·) (pair_toNat s 30)

/-- A pair holds a number modulo 65536 (R21). -/
theorem pairRegs_mod (regs : Vector Byte 32) (d : Reg) (n : Nat) : pairRegs regs d (n % 65536) = pairRegs regs d n := by
  have hlow : BitVec.ofNat 8 (n % 65536) = BitVec.ofNat 8 n := BitVec.eq_of_toNat_eq (by simp only [BitVec.toNat_ofNat]; omega)
  have hhigh : BitVec.ofNat 8 (n % 65536 / 256) = BitVec.ofNat 8 (n / 256) :=
    BitVec.eq_of_toNat_eq (by simp only [BitVec.toNat_ofNat]; omega)
  rw [pairRegs, pairRegs, hlow, hhigh]

/-- What is put into a pair is read from it. -/
theorem pair_setPair (s : State) (d : Reg) (w : Word16) : (s.setPair d w).pair d = w := by
  rw [State.pair, State.reg_setPair, State.reg_setPair, if_pos rfl, if_neg (add_one_ne d).symm, if_pos rfl, word_of_halves]

section
variable {s t : State} {d : Reg} {n : Nat}

/-- With the number `n` put into a pair, the pair is `n` modulo 65536. -/
theorem pairNat_of_pairRegs (hregs : t.regs = pairRegs s.regs d n) : t.pairNat d = n % 65536 := by
  have hset : t.regs = (s.setPair d (BitVec.ofNat 16 n)).regs := by rw [setPair_ofNat, hregs]
  have hpair : t.pair d = BitVec.ofNat 16 n := by
    rw [State.pair, State.reg_congr hset, State.reg_congr hset]
    exact pair_setPair s d _
  rw [← pair_toNat, hpair, BitVec.toNat_ofNat]

/-- With a number put into a pair, every other register is as it was. -/
theorem reg_of_pairRegs (hregs : t.regs = pairRegs s.regs d n) {j : Reg} (hlow : j ≠ d) (hhigh : j ≠ d + 1) :
    t.reg j = s.reg j := by
  have hset : t.regs = (s.setPair d (BitVec.ofNat 16 n)).regs := by rw [setPair_ofNat, hregs]
  rw [State.reg_congr hset, State.reg_setPair, if_neg hhigh, if_neg hlow]

theorem owns_z_eq_false : Ptr.z.owns d = false ↔ d ≠ 30 ∧ d ≠ 31 := by
  rw [Ptr.owns, Bool.or_eq_false_iff, beq_eq_false_iff_ne, beq_eq_false_iff_ne]
  rfl

end

/-! ### One load -/

/-- `s` once `v` is loaded into x[d] and then Z is one on (R322). -/
def State.loadedZInc (s : State) (d : Reg) (v : Byte) : State :=
  { s with regs := pairRegs (s.regs.set d.val v) 30 ((s.pairNat 30 + 1) % 65536), pc := s.pcAfter 1 }

/-- `s` once `v` is loaded into x[d] and then RAMPZ : Z is `n` modulo 2^24 (R325). -/
def State.loadedRampZZ (s : State) (d : Reg) (v : Byte) (n : Nat) : State :=
  { s with
    rampZ := BitVec.ofNat 8 (n % 16777216 / 65536)
    regs := pairRegs (s.regs.set d.val v) 30 (n % 65536)
    pc := s.pcAfter 1 }

section
variable {s t : State} {d : Reg} {v : Byte} {b : Nat}

theorem reg_loaded_same (s : State) (d : Reg) (v : Byte) (n : Nat) : (s.loaded d v n).reg d = v := State.reg_setReg_self s d v

theorem reg_loadedZInc_same (hd : Ptr.z.owns d = false) : (s.loadedZInc d v).reg d = v := by
  obtain ⟨hlow, hhigh⟩ := owns_z_eq_false.1 hd
  exact (reg_of_pairRegs (s := s.setReg d v) rfl hlow hhigh).trans (State.reg_setReg_self s d v)

theorem pairNat_loadedZInc (s : State) (d : Reg) (v : Byte) : (s.loadedZInc d v).pairNat 30 = (s.pairNat 30 + 1) % 65536 :=
  (pairNat_of_pairRegs (s := s.setReg d v) rfl).trans (Nat.mod_mod _ _)

/-- The loads that leave Z alone (R320, R321, R323, R324). -/
theorem exec_loadProgram (s : State) (d : Reg) :
    exec .lpmR0 s = loadProgram s 0 (s.pairNat 30) ∧ exec (.lpmZ d) s = loadProgram s d (s.pairNat 30)
      ∧ exec .elpmR0 s = loadProgram s 0 (s.rampZ.toNat * 65536 + s.pairNat 30)
      ∧ exec (.elpmZ d) s = loadProgram s d (s.rampZ.toNat * 65536 + s.pairNat 30) :=
  ⟨congrArg (loadProgram s 0) (lpmAddr_eq s), congrArg (loadProgram s d) (lpmAddr_eq s),
    congrArg (loadProgram s 0) (elpmAddr_eq s), congrArg (loadProgram s d) (elpmAddr_eq s)⟩

theorem loadProgram_eq_next : loadProgram s d b = .next t ↔ ∃ v, progByte s b = .next v ∧ t = s.loaded d v 1 := by
  rw [loadProgram, Res.andThen_eq_next]
  exact exists_congr fun v => and_congr_right fun _ => ⟨fun h => (Host.Outcome.next.inj h).symm, fun h => congrArg _ h.symm⟩

/-- What such a load comes to: the byte in x[d], or above the last address the fault of R77. -/
theorem loadProgram_outcome (s : State) (d : Reg) (v : Byte) (b : Nat) :
    (b ≤ 2 * s.cfg.flashEnd + 1 → s.flash.read b = some v → loadProgram s d b = .next (s.loaded d v 1))
      ∧ (2 * s.cfg.flashEnd + 1 < b → loadProgram s d b = .fault (.outOfRange .program b)) :=
  ⟨fun hb hread => loadProgram_eq_next.2 ⟨v, progByte_eq_next.2 ⟨hb, hread⟩, rfl⟩,
    fun hb => by rw [loadProgram, progByte_above hb, Res.andThen_fault]⟩

/-- LPM Rd,Z+ is a byte read at Z, then the load (R322). -/
theorem exec_lpmZInc (hd : Ptr.z.owns d = false) :
    exec (.lpmZInc d) s = (progByte s (s.pairNat 30)).andThen fun v => .next (s.loadedZInc d v) := by
  have harm : exec (.lpmZInc d) s = execLpmZInc d s := rfl
  simp only [harm, execLpmZInc, hd, Bool.false_eq_true, if_false, lpmAddr_eq, setPair_ofNat, State.loadedZInc, pairRegs_mod]
  rfl

/-- ELPM Rd,Z+ is a byte read at RAMPZ : Z, then the load (R325). -/
theorem exec_elpmZInc (hd : Ptr.z.owns d = false) :
    exec (.elpmZInc d) s = (progByte s (s.rampZ.toNat * 65536 + s.pairNat 30)).andThen fun v =>
      .next (s.loadedRampZZ d v (s.rampZ.toNat * 65536 + s.pairNat 30 + 1)) := by
  have harm : exec (.elpmZInc d) s = execElpmZInc d s := rfl
  simp only [harm, execElpmZInc, hd, Bool.false_eq_true, if_false, elpmAddr_eq, State.setRampZZ, setPair_ofNat,
    State.loadedRampZZ, pairRegs_mod]
  rfl

/-- Into half of Z the Z+ forms are undefined (R322, R325). -/
theorem programLoad_undefined (hd : Ptr.z.owns d = true) (s : State) :
    exec (.lpmZInc d) s = .fault (.undefinedUse (.lpmPointer d))
      ∧ exec (.elpmZInc d) s = .fault (.undefinedUse (.elpmPointer d)) := ⟨if_pos hd, if_pos hd⟩

end

/-- Settles O34: each form is a byte read at its address, then the load. -/
theorem programLoads : Obligations.ProgramLoads := by
  intro d s v
  obtain ⟨hlpmR0, hlpmZ, helpmR0, helpmZ⟩ := exec_loadProgram s d
  rw [hlpmR0, hlpmZ, helpmR0, helpmZ]
  have hencode (m : BitVec 4) {i : Instr} (hfirst : encodeFirst i = encLdSt 0 m.toNat d) (hone : encodeSecond i = none) :
      encode i = [boxLdSt 0 m d] := encode_eq_box (hfirst ▸ boxLdSt_eq 0 m d) hone
  refine ⟨⟨loadProgram_outcome .., rfl⟩, ⟨loadProgram_outcome .., hencode _ rfl rfl⟩, ⟨loadProgram_outcome .., rfl⟩,
    ⟨loadProgram_outcome .., hencode _ rfl rfl⟩, fun hlow hhigh hz hread => ?_, fun hlow hhigh hz hread => ?_,
    fun hlow hhigh hz => ?_, fun hlow hhigh hz => ?_, fun hd => programLoad_undefined (owns_of_eq hd) s, hencode _ rfl rfl,
    hencode _ rfl rfl⟩
    <;> have howns := owns_z_eq_false.2 ⟨hlow, hhigh⟩
  · rw [exec_lpmZInc howns, progByte_eq_next.2 ⟨hz, hread⟩, Res.andThen_next, State.loadedZInc]
  · rw [exec_elpmZInc howns, progByte_eq_next.2 ⟨hz, hread⟩, Res.andThen_next, State.loadedRampZZ]
  · rw [exec_lpmZInc howns, progByte_above hz, Res.andThen_fault]
  · rw [exec_elpmZInc howns, progByte_above hz, Res.andThen_fault]

/-! ### A table read by a row of loads -/

/-- `t` is `s` after `k` loads by LPM Rd,Z+, the last of them of the byte at Z + `k` - 1. -/
structure AfterLoads (s t : State) (d : Reg) (k : Nat) : Prop where
  cfg : t.cfg = s.cfg
  flash : t.flash = s.flash
  pointer : t.pairNat 30 = (s.pairNat 30 + k) % 65536
  byte : ∀ i, k = i + 1 → progByte s (s.pairNat 30 + i) = .next (t.reg d)

theorem afterLoads_zero (s : State) (d : Reg) : AfterLoads s s d 0 where
  cfg := rfl
  flash := rfl
  pointer := by rw [← pair_toNat]; exact (Nat.mod_eq_of_lt (BitVec.isLt _)).symm
  byte _ h := nomatch h

section
variable {s t : State} {d : Reg} {k n : Nat}

/-- One more load, of a byte that stands below byte address 65536 (R322). -/
theorem AfterLoads.succ (h : AfterLoads s t d k) (hd : Ptr.z.owns d = false) (hk : s.pairNat 30 + k < 65536) {v : Byte}
    (hbyte : progByte s (s.pairNat 30 + k) = .next v) :
    exec (.lpmZInc d) t = .next (t.loadedZInc d v) ∧ AfterLoads s (t.loadedZInc d v) d (k + 1) := by
  have hread : progByte t (t.pairNat 30) = .next v := by
    rw [h.pointer, Nat.mod_eq_of_lt hk, progByte_congr h.cfg h.flash, hbyte]
  refine ⟨by rw [exec_lpmZInc hd, hread, Res.andThen_next], h.cfg, h.flash, ?_, fun i hik => ?_⟩
  · rw [pairNat_loadedZInc, h.pointer, Nat.mod_add_mod, Nat.add_assoc]
  · obtain rfl : k = i := by omega
    rw [reg_loadedZInc_same hd, hbyte]

/-- The loads go on as far as bytes stand in Program memory and Z stays below 65536. -/
theorem execAll_lpmZInc (hd : Ptr.z.owns d = false) (hn : s.pairNat 30 + n ≤ 65536)
    (hbytes : ∀ i < n, ∃ v, progByte s (s.pairNat 30 + i) = .next v) (hk : k ≤ n) :
    ∃ t, execAll (List.replicate k (.lpmZInc d)) s = .next t ∧ AfterLoads s t d k := by
  induction k with
  | zero => exact ⟨s, rfl, afterLoads_zero s d⟩
  | succ k ih =>
    obtain ⟨t, hrun, hafter⟩ := ih (by omega)
    obtain ⟨v, hbyte⟩ := hbytes k (by omega)
    obtain ⟨hnext, hsucc⟩ := hafter.succ hd (by omega) hbyte
    rw [List.replicate_succ']
    exact ⟨_, execAll_concat hrun hnext, hsucc⟩

/-- Words in Program memory are bytes in it. -/
theorem bytes_of_words (heven : s.pairNat 30 % 2 = 0) (hwords : ∀ j < n, (wordAt s (s.pairNat 30 / 2 + j)).isSome) :
    ∀ i < 2 * n, ∃ v, progByte s (s.pairNat 30 + i) = .next v := by
  intro i hin
  obtain ⟨w, hw⟩ := Option.isSome_iff_exists.1 (hwords (i / 2) (by omega))
  obtain ⟨lo, hi, hlow, hhigh, -⟩ := wordAt_eq_some.1 hw
  rcases Nat.mod_two_eq_zero_or_one i with hpar | hpar
  · have haddr : 2 * (s.pairNat 30 / 2 + i / 2) = s.pairNat 30 + i := by omega
    exact ⟨lo, haddr ▸ hlow⟩
  · have haddr : 2 * (s.pairNat 30 / 2 + i / 2) + 1 = s.pairNat 30 + i := by omega
    exact ⟨hi, haddr ▸ hhigh⟩

end

/-- Settles O36: after an odd number of loads Rd is the low byte of a word, and after one more its high byte. -/
theorem tableRead : Obligations.TableRead := by
  intro n d s hlow hhigh heven hn hwords
  have howns := owns_z_eq_false.2 ⟨hlow, hhigh⟩
  have hrun {k : Nat} (hk : k ≤ 2 * n) := execAll_lpmZInc howns hn (bytes_of_words heven hwords) hk
  obtain ⟨t, ht, hafter⟩ := hrun le_rfl
  refine ⟨t, ht, hafter.pointer, fun m hm => ?_⟩
  obtain ⟨lo, hlo, hlast⟩ := hrun (k := 2 * m + 1) (by omega)
  obtain ⟨hi, hhi, hnext⟩ := hrun (k := 2 * m + 2) (by omega)
  have haddr : 2 * (s.pairNat 30 / 2 + m) = s.pairNat 30 + 2 * m := by omega
  refine ⟨lo, hi, hlo, hhi, (wordAt_eq_some.2 ⟨lo.reg d, hi.reg d, ?_, ?_, rfl⟩).symm⟩
  · rw [haddr, hlast.byte _ rfl]
  · rw [haddr, Nat.add_assoc, hnext.byte _ rfl]

/-! ### SPM -/

section
variable {s t : State}

theorem spmAddr_eq (s : State) :
    spmAddr s = if s.cfg.hasRampZ then s.rampZ.toNat * 65536 + s.pairNat 30 else s.pairNat 30 := by
  rw [spmAddr, elpmAddr_eq, lpmAddr_eq]

theorem pair_add_two (s : State) (d : Reg) : s.pair d + 2#16 = BitVec.ofNat 16 (s.pairNat d + 2) := by
  rw [← pair_toNat]
  exact BitVec.eq_of_toNat_eq (by simp)

/-- At an even address SPM does the selected operation (R326, R327, R328). -/
theorem exec_spm_even (heven : spmAddr s % 2 = 0) :
    exec .spm s = .next { spmEffect s (Config.spmSelect s.free) (spmAddr s) (s.pair 0) with pc := s.pcAfter 1 }
      ∧ exec .spmZInc s = .next { spmEffect s (Config.spmSelect s.free) (spmAddr s) (s.pair 0) with
          regs := pairRegs s.regs 30 ((s.pairNat 30 + 2) % 65536), pc := s.pcAfter 1 } := by
  have hgo (f : State → Res State) : Res.andThen (spmAt s (spmAddr s) (s.pair 0)) f
      = f (spmEffect s (Config.spmSelect s.free) (spmAddr s) (s.pair 0)) := by rw [spmAt, if_neg (by omega), Res.andThen_next]
  have hpair (op : SpmOp) (b : Nat) (w : Word16) : (spmEffect s op b w).pair 30 = s.pair 30 := rfl
  refine ⟨hgo _, (hgo _).trans ?_⟩
  rw [hpair, pair_add_two, setPair_ofNat, pairRegs_mod]
  rfl

/-- At an odd address SPM is refused (R71). -/
theorem exec_spm_odd (hodd : spmAddr s % 2 = 1) :
    exec .spm s = .refused (.deviceDefined (.spmOddAddress (spmAddr s)))
      ∧ exec .spmZInc s = .refused (.deviceDefined (.spmOddAddress (spmAddr s))) := by
  have hstop (f : State → Res State) : Res.andThen (spmAt s (spmAddr s) (s.pair 0)) f
      = .refused (.deviceDefined (.spmOddAddress (spmAddr s))) := by rw [spmAt, if_pos hodd, Res.andThen_refused]
  exact ⟨hstop _, hstop _⟩

end

/-- Settles O37: by the parity of the address. -/
theorem selfProgramming : Obligations.SelfProgramming := by
  intro s
  simp only [← spmAddr_eq]
  exact ⟨fun heven => ⟨_, _, rfl, exec_spm_even heven⟩, exec_spm_odd, rfl, rfl⟩

/-! ### Laws of the Program memory instructions -/

section
variable {s t : State} {d : Reg}

theorem loadProgram_keeps_sreg_sp {b : Nat} (h : loadProgram s d b = .next t) : t.sreg = s.sreg ∧ t.sp = s.sp := by
  obtain ⟨v, -, rfl⟩ := loadProgram_eq_next.1 h
  exact ⟨rfl, rfl⟩

/-- A Z+ form that goes on is not into half of Z. -/
theorem not_owns_of_next (h : exec (.lpmZInc d) s = .next t ∨ exec (.elpmZInc d) s = .next t) : Ptr.z.owns d = false := by
  rw [← Bool.not_eq_true]
  intro howns
  obtain ⟨hlpm, helpm⟩ := programLoad_undefined howns s
  rw [hlpm, helpm] at h
  rcases h with h | h <;> cases h

theorem next_of_lpmZInc (h : exec (.lpmZInc d) s = .next t) : ∃ v, t = s.loadedZInc d v := by
  rw [exec_lpmZInc (not_owns_of_next (.inl h))] at h
  obtain ⟨v, -, hv⟩ := Res.andThen_eq_next.1 h
  exact ⟨v, (Host.Outcome.next.inj hv).symm⟩

theorem next_of_elpmZInc (h : exec (.elpmZInc d) s = .next t) : ∃ v n, t = s.loadedRampZZ d v n := by
  rw [exec_elpmZInc (not_owns_of_next (.inr h))] at h
  obtain ⟨v, -, hv⟩ := Res.andThen_eq_next.1 h
  exact ⟨v, _, (Host.Outcome.next.inj hv).symm⟩

/-- An SPM that goes on has done one operation at an even address. -/
theorem spmAddr_even_of_next (h : exec .spm s = .next t ∨ exec .spmZInc s = .next t) : spmAddr s % 2 = 0 := by
  refine (Nat.mod_two_eq_zero_or_one _).resolve_right fun hodd => ?_
  obtain ⟨hspm, hinc⟩ := exec_spm_odd hodd
  rw [hspm, hinc] at h
  rcases h with h | h <;> cases h

/-- None of LPM, ELPM and SPM changes SREG or SP (R330 (d)). -/
theorem programMemory_keeps_sreg_sp {i : Instr}
    (hi : i ∈ [.lpmR0, .lpmZ d, .lpmZInc d, .elpmR0, .elpmZ d, .elpmZInc d, .spm, .spmZInc]) (h : exec i s = .next t) :
    t.sreg = s.sreg ∧ t.sp = s.sp := by
  simp only [List.mem_cons, List.not_mem_nil, or_false] at hi
  rcases hi with rfl | rfl | rfl | rfl | rfl | rfl | rfl | rfl
  · exact loadProgram_keeps_sreg_sp h
  · exact loadProgram_keeps_sreg_sp h
  · obtain ⟨v, rfl⟩ := next_of_lpmZInc h
    exact ⟨rfl, rfl⟩
  · exact loadProgram_keeps_sreg_sp h
  · exact loadProgram_keeps_sreg_sp h
  · obtain ⟨v, n, rfl⟩ := next_of_elpmZInc h
    exact ⟨rfl, rfl⟩
  · cases (exec_spm_even (spmAddr_even_of_next (.inl h))).1.symm.trans h
    exact ⟨rfl, rfl⟩
  · cases (exec_spm_even (spmAddr_even_of_next (.inr h))).2.symm.trans h
    exact ⟨rfl, rfl⟩

/-- With RAMPZ = 0 the address of ELPM is that of LPM (R330 (c)). -/
theorem elpm_eq_lpm (hramp : s.rampZ = 0#8) (d : Reg) :
    exec .elpmR0 s = exec .lpmR0 s ∧ exec (.elpmZ d) s = exec (.lpmZ d) s := by
  obtain ⟨hlpmR0, hlpmZ, helpmR0, helpmZ⟩ := exec_loadProgram s d
  rw [hlpmR0, hlpmZ, helpmR0, helpmZ, hramp, BitVec.toNat_zero, Nat.zero_mul, Nat.zero_add]
  exact ⟨rfl, rfl⟩

/-- An LPM that goes on leaves the byte at Z in R0 (R320). -/
theorem progByte_of_lpmR0 (h : exec .lpmR0 s = .next t) : progByte s (s.pairNat 30) = .next (t.reg 0) := by
  rw [(exec_loadProgram s 0).1] at h
  obtain ⟨v, hbyte, rfl⟩ := loadProgram_eq_next.1 h
  rw [hbyte, reg_loaded_same]

/-- LPM at an even address, and at the next in the same Program memory, gives the two halves of the word there (R330 (a)). -/
theorem lpm_halves {r u : State} {w : Word16} (heven : s.pairNat 30 % 2 = 0) (hw : wordAt s (s.pairNat 30 / 2) = some w)
    (ht : exec .lpmR0 s = .next t) (hu : exec .lpmR0 r = .next u) (hcfg : r.cfg = s.cfg) (hflash : r.flash = s.flash)
    (hz : r.pairNat 30 = s.pairNat 30 + 1) : u.reg 0 ++ t.reg 0 = w := by
  have hlow := progByte_of_lpmR0 ht
  have hhigh := progByte_of_lpmR0 hu
  rw [hz, progByte_congr hcfg hflash] at hhigh
  have haddr : 2 * (s.pairNat 30 / 2) = s.pairNat 30 := by omega
  have hword : wordAt s (s.pairNat 30 / 2) = some (u.reg 0 ++ t.reg 0) :=
    wordAt_eq_some.2 ⟨t.reg 0, u.reg 0, by rw [haddr, hlow], by rw [haddr, hhigh], rfl⟩
  exact Option.some.inj (hword.symm.trans hw)

end

/-- Settles O35: the laws of R330 but that of the table. An even Z is below 65535, so that Z + 1 is the next address. -/
theorem programMemoryLaws : Obligations.ProgramMemoryLaws := by
  refine ⟨fun s t u w heven hw ht hu => ?_, fun _ d hramp => elpm_eq_lpm hramp d,
    fun _ _ _ _ hi h => programMemory_keeps_sreg_sp hi h⟩
  have hbound : s.pairNat 30 < 65536 := pair_toNat s 30 ▸ BitVec.isLt _
  refine lpm_halves heven hw ht hu rfl rfl ?_
  exact (pairNat_of_pairRegs (s := s) rfl).trans (Nat.mod_eq_of_lt (by omega))

/-! ### The operations of SPM -/

/-- Word address `a` is in the page of byte address `b` (R328; the size of a page, log 10). -/
abbrev InSpmPage (c : Config) (b a : Nat) : Prop :=
  spmPage c b ≤ a ∧ a < spmPage c b + c.spmPageWords ∧ a ≤ c.flashEnd

section
variable {s : State} {b : Nat}

/-- The words an operation on the page of `b` goes over are those of the page. -/
theorem spmPage_words_iff {c : Config} (hb : b / 2 ≤ c.flashEnd) (a : Nat) :
    spmPage c b ≤ a ∧ a < spmPage c b + spmPageLen c b ↔ InSpmPage c b a := by
  have hstart : spmPage c b ≤ b / 2 := Nat.div_mul_le_self _ _
  unfold InSpmPage spmPageLen
  omega

theorem spmTarget_eq (hb : b / 2 ≤ s.cfg.flashEnd) : spmTarget s b = b := if_pos hb

theorem readWord_pageErase (hb : b / 2 ≤ s.cfg.flashEnd) (w : Word16) (a : Nat) :
    (spmFlash s .pageErase b w).readWord a = if InSpmPage s.cfg b a then some 0xFFFF#16 else s.flash.readWord a := by
  simp only [spmFlash, spmTarget_eq hb, Memory.readWord_writeWords, spmPage_words_iff hb]

theorem readWord_wordWrite (hb : b / 2 ≤ s.cfg.flashEnd) (w : Word16) (a : Nat) :
    (spmFlash s .wordWrite b w).readWord a = if a = b / 2 then some w else s.flash.readWord a := by
  simp only [spmFlash, spmTarget_eq hb, Memory.readWord_writeWord]

theorem readWord_pageWrite (hb : b / 2 ≤ s.cfg.flashEnd) (w : Word16) (a : Nat) :
    (spmFlash s .pageWrite b w).readWord a
      = if InSpmPage s.cfg b a then some (spmPageWord s b (a - spmPage s.cfg b)) else s.flash.readWord a := by
  simp only [spmFlash, spmTarget_eq hb, Memory.readWord_writeWords, spmPage_words_iff hb]

theorem spmPageErased_of_words (hb : b / 2 ≤ s.cfg.flashEnd)
    (herased : ∀ a, InSpmPage s.cfg b a → s.flash.readWord a = some 0xFFFF#16) : spmPageErased s b = true := by
  rw [spmPageErased, List.all_eq_true]
  intro i hi
  rw [beq_iff_eq]
  exact herased _ ((spmPage_words_iff hb _).1 ⟨Nat.le_add_right _ _, Nat.add_lt_add_left (List.mem_range.1 hi) _⟩)

/-- On an erased page a filled buffer word is what a page write puts down (R328). -/
theorem spmPageWord_of_erased {i : Nat} {x : Word16} (herased : spmPageErased s b = true) (hx : s.pageBuf.readWord i = some x) :
    spmPageWord s b i = x := by
  rw [spmPageWord, if_pos herased, hx, Option.getD_some]

end

/-- Settles O38: operation by operation, what stands in Program memory, buffer and lock bits after it. -/
theorem spmOperations : Obligations.SpmOperations := by
  intro s op b w _ hb
  refine ⟨rfl, ?_, ?_, ?_, ?_, ?_, ?_, ?_, fun hop => if_neg hop, ?_⟩
  · rintro rfl
    exact readWord_pageErase hb w
  · rintro rfl
    exact readWord_wordWrite hb w
  · rintro rfl
    rfl
  · rintro (rfl | rfl) j <;> rfl
  · rintro rfl
    exact ⟨rfl, fun j => Memory.readWord_writeWord _ _ j w⟩
  · rintro rfl
    refine ⟨fun a hout => (readWord_pageWrite hb w a).trans (if_neg hout), fun herased a x hin hx => ?_⟩
    have hword := spmPageWord_of_erased (spmPageErased_of_words hb herased) hx
    exact ((readWord_pageWrite hb w a).trans (if_pos hin)).trans (congrArg some hword)
  · rintro rfl
    exact ⟨rfl, rfl, rfl⟩
  · rintro rfl
    exact ⟨rfl, rfl⟩

end Sys2Proof.Machine
end

section
/-! The right shifts and SWAP (spec/45_bit_and_bit_test.md R340, R342, R344 to R346): each result as a number; ASR is ROR with the
sign shifted in. -/
namespace Sys2Proof.Machine

/-- The state once `v` is in x[d] in place of the byte that was there, with the flags of R340. -/
def State.shiftedRight (s : State) (d : Reg) (v : Byte) : State :=
  s.computed d v
    (setSVNZC s.sreg (v.getLsbD 7 ^^ (s.reg d).getLsbD 0) (v.getLsbD 7) (v == 0#8) ((s.reg d).getLsbD 0))

theorem shiftRight_eq_ofNat (a : Byte) : a >>> 1 = BitVec.ofNat 8 (a.toNat / 2) := by
  bv_omega

/-- A byte shifted right with the bit `c` shifted in is half the byte, and 128 where `c` is set. -/
theorem shiftRight_or_eq_ofNat (a : Byte) (c : Bool) :
    a >>> 1 ||| (BitVec.ofBool c).setWidth 8 <<< 7 = BitVec.ofNat 8 (a.toNat / 2 + 128 * c.toNat) := by
  have hdisjoint : a >>> 1 &&& (BitVec.ofBool c).setWidth 8 <<< 7 = 0#8 := by
    ext i hi
    have htop : i < 7 ∨ i = 7 := by omega
    rcases htop with hlow | rfl
    · simp [hlow]
    · simp
  have hin : ((BitVec.ofBool c).setWidth 8 <<< 7 : Byte) = BitVec.ofNat 8 (128 * c.toNat) := by
    cases c <;> rfl
  rw [← BitVec.add_eq_or_of_and_eq_zero _ _ hdisjoint, hin, shiftRight_eq_ofNat, BitVec.ofNat_add]

theorem and_sign_eq_shiftLeft (a : Byte) : a &&& 0x80#8 = (BitVec.ofBool (a.getLsbD 7)).setWidth 8 <<< 7 := by
  have hmask : (0x80#8 : Byte) = BitVec.twoPow 8 7 := rfl
  rw [hmask, BitVec.and_twoPow]
  cases a.getLsbD 7 <;> rfl

/-- Half a signed byte, rounded down, is half the byte with its sign put back on top. -/
theorem half_toInt_eq_ofNat (a : Byte) :
    BitVec.ofInt 8 (a.toInt / 2) = BitVec.ofNat 8 (a.toNat / 2 + 128 * (a.getLsbD 7).toNat) := by
  have hlt := a.isLt
  apply BitVec.eq_of_toNat_eq
  rw [sign_eq_decide, ← ite_eq_toNat, byte_toInt, BitVec.toNat_ofInt, BitVec.toNat_ofNat]
  simp only [decide_eq_true_eq]
  split <;> split <;> omega

theorem swap_eq_ofNat (a : Byte) : a <<< 4 ||| a >>> 4 = BitVec.ofNat 8 (a.toNat % 16 * 16 + a.toNat / 16) := by
  have hdisjoint : a <<< 4 &&& a >>> 4 = 0#8 := by
    ext i hi
    have hhalf : i < 4 ∨ 8 ≤ 4 + i := by omega
    rcases hhalf with hlow | hhigh
    · simp [hlow]
    · simp [hhigh]
  rw [← BitVec.add_eq_or_of_and_eq_zero _ _ hdisjoint]
  bv_omega

theorem exec_lsr (d : Reg) (s : State) : exec (.lsr d) s = .next (s.shiftedRight d (BitVec.ofNat 8 ((s.reg d).toNat / 2))) := by
  rw [← shiftRight_eq_ofNat]
  rfl

theorem exec_ror (d : Reg) (s : State) :
    exec (.ror d) s = .next (s.shiftedRight d (BitVec.ofNat 8 ((s.reg d).toNat / 2 + 128 * s.carryNat))) := by
  rw [carryNat_eq_toNat, ← shiftRight_or_eq_ofNat]
  rfl

theorem exec_asr (d : Reg) (s : State) : exec (.asr d) s = .next (s.shiftedRight d (BitVec.ofInt 8 ((s.reg d).toInt / 2))) := by
  rw [half_toInt_eq_ofNat, ← shiftRight_or_eq_ofNat, ← and_sign_eq_shiftLeft]
  rfl

theorem exec_swap (d : Reg) (s : State) :
    exec (.swap d) s = .next (s.loaded d (BitVec.ofNat 8 ((s.reg d).toNat % 16 * 16 + (s.reg d).toNat / 16)) 1) := by
  rw [← swap_eq_ofNat]
  rfl

/-- Settles O40: each instruction by its equation, its word by the box of its format. -/
theorem rightShifts : Obligations.RightShifts := fun d s =>
  ⟨⟨exec_lsr d s, encode_eq_box (boxR1_eq _ d) rfl⟩, ⟨exec_ror d s, encode_eq_box (boxR1_eq _ d) rfl⟩,
    ⟨exec_asr d s, encode_eq_box (boxR1_eq _ d) rfl⟩, ⟨exec_swap d s, encode_eq_box (boxR1_eq _ d) rfl⟩⟩

end Sys2Proof.Machine
end

section
/-! The flag instructions and the T bit (spec/45_bit_and_bit_test.md R347, R348, R351 to R368). -/
namespace Sys2Proof.Machine

/-! ### Flags -/

/-- Setting I holds interrupts off; setting another flag, or clearing one, leaves the hold-off as it is (R347, R348, R359). -/
theorem flagWrite_eq (s : State) (b : BitNum) (on : Bool) : flagWrite s b on = .next (s.flagged b on) := by
  by_cases hI : b = 7 ∧ on = true
  · obtain ⟨rfl, rfl⟩ := hI
    rw [flagWrite, if_pos ⟨rfl, rfl⟩, State.flagged, beq_self_eq_true, Bool.and_true, Bool.or_true]
    rfl
  · have hkeep : (b == 7 && on) = false := by simpa using hI
    rw [flagWrite, if_neg hI, State.flagged, hkeep, Bool.or_false]
    rfl

/-- An instruction that ends as a write of SREG bit `b`, in full: its next state and its word. -/
theorem flag_complete {i : Instr} {s : State} {b : BitNum} {on : Bool} {w : Word16} (hend : exec i s = flagWrite s b on)
    (hword : encode i = [w]) : exec i s = .next (s.flagged b on) ∧ encode i = [w] :=
  ⟨hend.trans (flagWrite_eq s b on), hword⟩

theorem getLsbD_sreg_flagged (s : State) (b j : BitNum) (on : Bool) :
    (s.flagged b on).sreg.getLsbD j.val = if j = b then on else s.sreg.getLsbD j.val :=
  withBit_getLsbD s.sreg b j on

/-- Settles O41: each of the eighteen writes its own SREG bit. -/
theorem flagInstructions : Obligations.FlagInstructions := by
  intro b s
  refine ⟨flag_complete rfl (encode_eq_box (boxSregBit_eq 0 b) rfl), flag_complete rfl rfl, flag_complete rfl rfl,
    flag_complete rfl rfl, flag_complete rfl rfl, flag_complete rfl rfl, flag_complete rfl rfl, flag_complete rfl rfl,
    flag_complete rfl rfl, fun j => ?_, flag_complete rfl (encode_eq_box (boxSregBit_eq 1 b) rfl), flag_complete rfl rfl,
    flag_complete rfl rfl, flag_complete rfl rfl, flag_complete rfl rfl, flag_complete rfl rfl, flag_complete rfl rfl,
    flag_complete rfl rfl, flag_complete rfl rfl, fun j => ?_, ?_⟩
  · rw [getLsbD_sreg_flagged]
    by_cases hj : j = b <;> simp [hj]
  · rw [getLsbD_sreg_flagged]
    by_cases hj : j = b <;> simp [hj]
  · rw [State.flagged, Bool.and_false, Bool.or_false]

/-! ### The T bit -/

theorem exec_bst (d : Reg) (b : BitNum) (s : State) :
    exec (.bst d b) s = .next { s with sreg := withBit s.sreg 6 ((s.reg d).getLsbD b.val), pc := s.pcAfter 1 } := rfl

theorem exec_bld (d : Reg) (b : BitNum) (s : State) :
    exec (.bld d b) s = .next (s.loaded d (withBit (s.reg d) b (s.sreg.getLsbD 6)) 1) := rfl

/-- Settles O42: each writes one bit, the other seven being kept. -/
theorem bitTransfers : Obligations.BitTransfers := fun d b s =>
  ⟨⟨_, exec_bst d b s, fun j => withBit_getLsbD s.sreg 6 j _⟩, ⟨_, exec_bld d b s, fun j => withBit_getLsbD (s.reg d) b j _⟩,
    encode_eq_box (boxRBit_eq _ d b) rfl, encode_eq_box (boxRBit_eq _ d b) rfl⟩

end Sys2Proof.Machine
end

section
/-! SBI and CBI (spec/45_bit_and_bit_test.md R349, R350, spec/20_memory.md R65): the location is read, one bit changed, and written. -/
namespace Sys2Proof.Machine

section
variable {s t : State} {a : Fin 64} {v : Byte}

theorem ioBitWrite_device (hdevice : ioTarget s.cfg a = .device) (b : BitNum) (on : Bool) : ioBitWrite s a b on = s := by
  rw [ioBitWrite, hdevice]

/-- A location that answers and is read as `v`, the state then being `t`, is written back with the one bit changed. -/
theorem ioBitWrite_of_read (hanswers : ioTarget s.cfg a ≠ .device) (hread : ioRead s a = (v, t)) (b : BitNum) (on : Bool) :
    ioBitWrite s a b on = ioWrite t a (withBit v b on) := by
  unfold ioBitWrite
  split
  next hdevice => exact absurd hdevice hanswers
  next => rw [hread]

theorem ioTarget_ne_device_of_peekIo (hpeek : peekIo s a = some v) : ioTarget s.cfg a ≠ .device := by
  intro hdevice
  rw [peekIo, hdevice] at hpeek
  exact absurd hpeek (Option.some_ne_none v).symm

end

/-- What an instruction that makes bit `b` of I/O location `a` `on` comes to (R65, R349, R350): the byte there with that bit
changed is written back; at storage not yet written the byte is some byte; with no device behind the location nothing is seen. -/
def IoBitOutcome (r : Res State) (s : State) (a : Fin 64) (b : BitNum) (on : Bool) : Prop :=
  (∀ v, peekIo s a = some v →
      ∃ x : Byte, (∀ j : BitNum, x.getLsbD j.val = if j = b then on else v.getLsbD j.val)
        ∧ r = .next ((ioWrite s a x).moved 1))
    ∧ (peekIo s a = none → ioTarget s.cfg a = .storage →
      ∃ x : Byte, x.getLsbD b.val = on ∧ r = .next ((ioWrite { s with free := s.free + 1 } a x).moved 1))
    ∧ (ioTarget s.cfg a = .device → r = .next (s.moved 1))

theorem ioBitWrite_outcome (s : State) (a : Fin 64) (b : BitNum) (on : Bool) :
    IoBitOutcome (.next ((ioBitWrite s a b on).moved 1)) s a b on := by
  refine ⟨fun v hpeek => ⟨withBit v b on, fun j => withBit_getLsbD v b j on, ?_⟩,
    fun hnone hstorage => ⟨withBit (Config.freeByte s.free) b on, ?_, ?_⟩, fun hdevice => ?_⟩
  · rw [ioBitWrite_of_read (ioTarget_ne_device_of_peekIo hpeek) (ioRead_of_peekIo hpeek)]
  · rw [withBit_getLsbD, if_pos rfl]
  · have hanswers : ioTarget s.cfg a ≠ .device := by simp [hstorage]
    rw [ioBitWrite_of_read hanswers (ioRead_of_none hnone)]
  · rw [ioBitWrite_device hdevice]

/-- Settles O43: both end as a change of one bit of the location. -/
theorem ioBits : Obligations.IoBits := fun a b s =>
  ⟨ioBitWrite_outcome s (lowIo a) b true, ioBitWrite_outcome s (lowIo a) b false,
    encode_eq_box (boxIoBit_eq _ a b) rfl, encode_eq_box (boxIoBit_eq _ a b) rfl⟩

end Sys2Proof.Machine
end

section
/-! The laws of shifts, flag bits and the T bit (spec/45_bit_and_bit_test.md R369): what one shift leaves in x[d] and C, then two
instructions chained. -/
namespace Sys2Proof.Machine

/-! ### One shift -/

/-- The state once x[d] is shifted left with `cin` shifted in, as LSL and ROL do. -/
def State.shiftedLeft (s : State) (d : Reg) (cin : Nat) : State :=
  let v := BitVec.ofNat 8 (2 * (s.reg d).toNat + cin)
  s.computed d v (setHSVNZC s.sreg ((s.reg d).getLsbD 3) (v.getLsbD 7 ^^ (s.reg d).getLsbD 7) (v.getLsbD 7) (v == 0#8)
    ((s.reg d).getLsbD 7))

section
variable {d h l j r : Reg} {s t : State} {b c : BitNum}

theorem next_of_lsl (hrun : exec (.lsl d) s = .next t) : t = s.shiftedLeft d 0 :=
  Host.Outcome.next.inj (hrun.symm.trans (execLsl_eq d s))

theorem next_of_rol (hrun : exec (.rol d) s = .next t) : t = s.shiftedLeft d s.carryNat :=
  Host.Outcome.next.inj (hrun.symm.trans (execRol_eq d s))

theorem next_of_lsr (hrun : exec (.lsr d) s = .next t) : t = s.shiftedRight d (BitVec.ofNat 8 ((s.reg d).toNat / 2)) :=
  Host.Outcome.next.inj (hrun.symm.trans (exec_lsr d s))

theorem next_of_ror (hrun : exec (.ror d) s = .next t) :
    t = s.shiftedRight d (BitVec.ofNat 8 ((s.reg d).toNat / 2 + 128 * s.carryNat)) :=
  Host.Outcome.next.inj (hrun.symm.trans (exec_ror d s))

theorem next_of_asr (hrun : exec (.asr d) s = .next t) : t = s.shiftedRight d (BitVec.ofInt 8 ((s.reg d).toInt / 2)) :=
  Host.Outcome.next.inj (hrun.symm.trans (exec_asr d s))

theorem reg_shiftedLeft_of_ne (c : Nat) (hj : j ≠ d) : (s.shiftedLeft d c).reg j = s.reg j :=
  (reg_computed s d _ _ j).trans (if_neg hj)

theorem toNat_reg_shiftedLeft (s : State) (d : Reg) (c : Nat) :
    ((s.shiftedLeft d c).reg d).toNat = (2 * (s.reg d).toNat + c) % 256 := by
  rw [State.shiftedLeft, reg_computed, if_pos rfl, BitVec.toNat_ofNat]

theorem reg_shiftedRight (s : State) (d : Reg) (v : Byte) (j : Reg) :
    (s.shiftedRight d v).reg j = if j = d then v else s.reg j :=
  reg_computed s d v _ j

theorem carryNat_shiftedLeft (s : State) (d : Reg) (c : Nat) :
    (s.shiftedLeft d c).carryNat = if 128 ≤ (s.reg d).toNat then 1 else 0 := by
  rw [carryNat_eq_toNat, State.flag, State.shiftedLeft, State.computed, setHSVNZC]
  simp only [flagOf_packFlags, sign_eq_decide, ← ite_eq_toNat, decide_eq_true_eq]

theorem carryNat_shiftedRight (s : State) (d : Reg) (v : Byte) : (s.shiftedRight d v).carryNat = (s.reg d).toNat % 2 := by
  rw [carryNat_eq_toNat, State.flag, State.shiftedRight, State.computed, setSVNZC, setHSVNZC]
  simp only [flagOf_packFlags, BitVec.getLsbD, Nat.toNat_testBit, pow_zero, Nat.div_one]

/-- C is the ninth bit of a byte shifted left. -/
theorem ninth_bit_shiftedLeft (s : State) (d : Reg) {c : Nat} (hc : c ≤ 1) :
    256 * (s.shiftedLeft d c).carryNat + ((s.shiftedLeft d c).reg d).toNat = 2 * (s.reg d).toNat + c := by
  have hlt := (s.reg d).isLt
  rw [carryNat_shiftedLeft, toNat_reg_shiftedLeft]
  split <;> omega

/-- C is the bit below a byte shifted right with the carry shifted in. -/
theorem low_bit_of_ror (hrun : exec (.ror d) s = .next t) :
    2 * (t.reg d).toNat + t.carryNat = 256 * s.carryNat + (s.reg d).toNat := by
  have hlt := (s.reg d).isLt
  have hc := carryNat_le s
  rw [next_of_ror hrun, carryNat_shiftedRight, reg_shiftedRight, if_pos rfl, BitVec.toNat_ofNat]
  omega

theorem low_bit_of_lsr (hrun : exec (.lsr d) s = .next t) : 2 * (t.reg d).toNat + t.carryNat = (s.reg d).toNat := by
  have hlt := (s.reg d).isLt
  rw [next_of_lsr hrun, carryNat_shiftedRight, reg_shiftedRight, if_pos rfl, BitVec.toNat_ofNat]
  omega

theorem low_bit_of_asr (hrun : exec (.asr d) s = .next t) : 2 * (t.reg d).toInt + t.carryNat = (s.reg d).toInt := by
  have hlt := (s.reg d).isLt
  have hsigned := byte_toInt (s.reg d)
  rw [next_of_asr hrun, carryNat_shiftedRight, reg_shiftedRight, if_pos rfl, BitVec.toInt_ofInt, Int.bmod_def]
  split at hsigned <;> omega

theorem halfCarry_packFlags (i t h s v n z c : Bool) : flagOf (packFlags i t h s v n z c) .h = h := by
  obtain ⟨-, -, -, -, -, hH, -⟩ := packFlags_bits i t h s v n z c
  exact hH

/-- A shift sets V = N ⊕ C, so that S = N ⊕ V = C (R369 (b), (c)). -/
theorem flags_of_shift {old : Byte} {half n z carry : Bool} (hflags : t.sreg = setHSVNZC old half (n ^^ carry) n z carry) :
    t.flag .v = (t.flag .n ^^ t.flag .c) ∧ t.flag .s = t.flag .c ∧ t.flag .h = half := by
  simp only [State.flag, hflags, setHSVNZC, flagOf_packFlags, halfCarry_packFlags, true_and, and_true]
  rw [← Bool.xor_assoc, Bool.xor_self, Bool.false_xor]

theorem flags_of_right_shift {i : Instr} (hi : i ∈ [.lsr d, .ror d, .asr d]) (hrun : exec i s = .next t) :
    t.flag .v = (t.flag .n ^^ t.flag .c) ∧ t.flag .s = t.flag .c := by
  have hshift : ∃ v, t = s.shiftedRight d v := by
    simp only [List.mem_cons, List.not_mem_nil, or_false] at hi
    rcases hi with rfl | rfl | rfl
    · exact ⟨_, next_of_lsr hrun⟩
    · exact ⟨_, next_of_ror hrun⟩
    · exact ⟨_, next_of_asr hrun⟩
  obtain ⟨v, ht⟩ := hshift
  obtain ⟨hV, hS, -⟩ := flags_of_shift (congrArg State.sreg ht)
  exact ⟨hV, hS⟩

theorem flags_of_left_shift {i : Instr} (hi : i ∈ [.lsl d, .rol d]) (hrun : exec i s = .next t) :
    t.flag .v = (t.flag .n ^^ t.flag .c) ∧ t.flag .s = t.flag .c ∧ t.flag .h = (s.reg d).getLsbD 3 := by
  have hshift : ∃ n, t = s.shiftedLeft d n := by
    simp only [List.mem_cons, List.not_mem_nil, or_false] at hi
    rcases hi with rfl | rfl
    · exact ⟨_, next_of_lsl hrun⟩
    · exact ⟨_, next_of_rol hrun⟩
  obtain ⟨n, ht⟩ := hshift
  exact flags_of_shift (congrArg State.sreg ht)

/-! ### Two shifts -/

theorem reg_of_lsl (hrun : exec (.lsl d) s = .next t) : t.reg d = s.reg d <<< 1 := by
  cases hrun
  exact State.reg_setReg_self s d _

theorem reg_of_lsr (hrun : exec (.lsr d) s = .next t) : t.reg d = s.reg d >>> 1 := by
  cases hrun
  exact State.reg_setReg_self s d _

/-- LSL then LSR clears bit 7 (R369 (a)). -/
theorem lsl_lsr_clears (hrun : execAll [.lsl d, .lsr d] s = .next t) : t.reg d = s.reg d &&& 0x7F#8 := by
  obtain ⟨u, hlsl, hlsr⟩ := execAll_pair hrun
  have hmask : (s.reg d &&& 0x7F#8).toNat = (s.reg d).toNat % 2 ^ 7 := Nat.and_two_pow_sub_one_eq_mod _ 7
  rw [reg_of_lsr hlsr, reg_of_lsl hlsl]
  apply BitVec.eq_of_toNat_eq
  rw [hmask]
  bv_omega

/-- LSR then LSL clears bit 0 (R369 (a)). -/
theorem lsr_lsl_clears (hrun : execAll [.lsr d, .lsl d] s = .next t) : t.reg d = s.reg d &&& 0xFE#8 := by
  obtain ⟨u, hlsr, hlsl⟩ := execAll_pair hrun
  rw [reg_of_lsl hlsl, reg_of_lsr hlsr]
  exact BitVec.shiftLeft_ushiftRight

/-- LSL then ROL doubles the 16-bit number, C its seventeenth bit (R369 (d)). -/
theorem lsl_rol_doubles (hne : l ≠ h) (hrun : execAll [.lsl l, .rol h] s = .next t) :
    65536 * t.carryNat + ((t.reg h).toNat * 256 + (t.reg l).toNat) = 2 * ((s.reg h).toNat * 256 + (s.reg l).toNat) := by
  obtain ⟨u, hlow, hhigh⟩ := execAll_pair hrun
  obtain rfl := next_of_rol hhigh
  have hkeep : u.reg h = s.reg h := by rw [next_of_lsl hlow, reg_shiftedLeft_of_ne _ hne.symm]
  have low : 256 * u.carryNat + (u.reg l).toNat = 2 * (s.reg l).toNat + 0 := by
    rw [next_of_lsl hlow]
    exact ninth_bit_shiftedLeft s l (Nat.zero_le 1)
  have high := ninth_bit_shiftedLeft u h (carryNat_le u)
  rw [hkeep] at high
  rw [reg_shiftedLeft_of_ne _ hne]
  omega

/-- ROR of the low register after a right shift of the high one takes in the bit that shift put out. -/
theorem ror_after_right_shift {u : State} {v : Byte} (hne : l ≠ h) (hhigh : u = s.shiftedRight h v)
    (hlow : exec (.ror l) u = .next t) :
    t.reg h = u.reg h ∧ 2 * (t.reg l).toNat + t.carryNat = 256 * u.carryNat + (s.reg l).toNat := by
  have hkeep : u.reg l = s.reg l := by rw [hhigh, reg_shiftedRight, if_neg hne]
  exact ⟨by rw [next_of_ror hlow, reg_shiftedRight, if_neg hne.symm], hkeep ▸ low_bit_of_ror hlow⟩

/-- LSR then ROR halves the 16-bit number, C the bit shifted out (R369 (d)). -/
theorem lsr_ror_halves (hne : l ≠ h) (hrun : execAll [.lsr h, .ror l] s = .next t) :
    2 * ((t.reg h).toNat * 256 + (t.reg l).toNat) + t.carryNat = (s.reg h).toNat * 256 + (s.reg l).toNat := by
  obtain ⟨u, hhigh, hlow⟩ := execAll_pair hrun
  obtain ⟨hkeep, low⟩ := ror_after_right_shift hne (next_of_lsr hhigh) hlow
  have high := low_bit_of_lsr hhigh
  rw [hkeep]
  omega

/-- ASR then ROR halves the signed 16-bit number, C the bit shifted out (R369 (d)). -/
theorem asr_ror_halves (hne : l ≠ h) (hrun : execAll [.asr h, .ror l] s = .next t) :
    2 * ((t.reg h).toInt * 256 + (t.reg l).toNat) + t.carryNat = (s.reg h).toInt * 256 + (s.reg l).toNat := by
  obtain ⟨u, hhigh, hlow⟩ := execAll_pair hrun
  obtain ⟨hkeep, low⟩ := ror_after_right_shift hne (next_of_asr hhigh) hlow
  have high := low_bit_of_asr hhigh
  rw [hkeep]
  omega

/-! ### Flag bits and the T bit -/

/-- BSET then BCLR leaves the flag cleared and the others as they were (R369 (e)). -/
theorem bset_bclr_clears (hrun : execAll [.bset b, .bclr b] s = .next t) : t.sreg = s.sreg &&& ~~~(1#8 <<< b.val) := by
  obtain ⟨u, hset, hclear⟩ := execAll_pair hrun
  obtain rfl := Host.Outcome.next.inj (hset.symm.trans (flagWrite_eq s b true))
  obtain rfl := Host.Outcome.next.inj (hclear.symm.trans (flagWrite_eq _ b false))
  have hbits : ((s.flagged b true).flagged b false).sreg = withBit s.sreg b false := by
    apply byte_ext
    intro j
    rw [getLsbD_sreg_flagged, getLsbD_sreg_flagged, withBit_getLsbD]
    by_cases hj : j = b <;> simp [hj]
  exact hbits

theorem reg_loaded (s : State) (d : Reg) (v : Byte) (n : Nat) (j : Reg) :
    (s.loaded d v n).reg j = if j = d then v else s.reg j :=
  State.reg_setReg s d j v

/-- BST then BLD carries one bit over, and T and the pc are all that changes besides (R369 (f)). -/
theorem bst_bld_copies (hrun : execAll [.bst r b, .bld d c] s = .next t) :
    (t.reg d).getLsbD c.val = (s.reg r).getLsbD b.val
      ∧ (∀ j : BitNum, j ≠ c → (t.reg d).getLsbD j.val = (s.reg d).getLsbD j.val)
      ∧ (∀ e : Reg, e ≠ d → t.reg e = s.reg e) ∧ (∀ j : BitNum, j ≠ 6 → t.sreg.getLsbD j.val = s.sreg.getLsbD j.val)
      ∧ t = { s with regs := t.regs, sreg := t.sreg, pc := (s.moved 1).pcAfter 1 } := by
  obtain ⟨u, hbst, hbld⟩ := execAll_pair hrun
  obtain rfl := Host.Outcome.next.inj (hbst.symm.trans (exec_bst r b s))
  obtain rfl := Host.Outcome.next.inj (hbld.symm.trans (exec_bld d c _))
  refine ⟨?_, fun j hj => ?_, fun e he => ?_, fun j hj => ?_, rfl⟩
  · rw [reg_loaded, if_pos rfl, withBit_getLsbD, if_pos rfl]
    exact (withBit_getLsbD s.sreg 6 6 _).trans (if_pos rfl)
  · rw [reg_loaded, if_pos rfl, withBit_getLsbD, if_neg hj]
    rfl
  · rw [reg_loaded, if_neg he]
    rfl
  · exact (withBit_getLsbD s.sreg 6 j _).trans (if_neg hj)

end

/-- Settles O44: clause by clause, C the bit each shift puts out and the next takes in. -/
theorem bitLaws : Obligations.BitLaws := by
  refine ⟨fun _ _ _ => lsl_lsr_clears, fun _ _ _ => lsr_lsl_clears, ?_, fun _ _ _ _ => lsl_rol_doubles,
    fun _ _ _ _ => lsr_ror_halves, fun _ _ _ _ => asr_ror_halves, fun _ _ _ => bset_bclr_clears,
    fun _ _ _ _ _ _ => bst_bld_copies⟩
  intro d s t i hi hrun
  by_cases hleft : i ∈ [.lsl d, .rol d]
  · obtain ⟨hV, hS, hH⟩ := flags_of_left_shift hleft hrun
    exact ⟨hV, hS, fun _ => hH⟩
  · have hright : i ∈ [.lsr d, .ror d, .asr d] := (List.mem_append.1 hi).resolve_right hleft
    obtain ⟨hV, hS⟩ := flags_of_right_shift hright hrun
    exact ⟨hV, hS, fun h => absurd h hleft⟩

end Sys2Proof.Machine
end

section
/-! NOP, WDR, BREAK and SLEEP (spec/46_mcu_control.md R390 to R393): BREAK and SLEEP change the run state under a device's condition. -/
namespace Sys2Proof.Machine

/-- An instruction that moves on and, where `cond` holds, enters the run state `r` changes the pc and the run state alone. -/
theorem advance_then_enter (s : State) (cond : Bool) (r : RunState) :
    (if cond then Host.Outcome.next { s.advance 1 with run := r } else .next (s.advance 1) : Res State)
      = .next { s with pc := s.pcAfter 1, run := if cond then r else s.run } := by
  cases cond with
  | true => rfl
  | false => rfl

theorem exec_nop (s : State) : exec .nop s = .next (s.moved 1) := rfl

theorem exec_wdr (s : State) : exec .wdr s = .next (s.moved 1) := rfl

theorem exec_brk (s : State) :
    exec .brk s = .next { s with pc := s.pcAfter 1, run := if s.cfg.ocdEnabled then .stopped else s.run } :=
  advance_then_enter s s.cfg.ocdEnabled .stopped

theorem exec_sleep (s : State) :
    exec .sleep s = .next { s with pc := s.pcAfter 1, run := if s.sleepEnabled then .sleeping else s.run } :=
  advance_then_enter s s.sleepEnabled .sleeping

/-- Settles O45: each instruction by its equation; none has an operand, so its word is a constant. -/
theorem mcuControl : Obligations.McuControl := fun s =>
  ⟨⟨exec_nop s, rfl⟩, ⟨exec_wdr s, rfl⟩, ⟨exec_brk s, rfl⟩, ⟨exec_sleep s, rfl⟩⟩

end Sys2Proof.Machine
end

section
/-! Interrupts (spec/60_exceptions.md R404 to R409): how a step is planned (spec/00_scope.md R11), the entry of an interrupt and its
return, and the hold-off. -/
namespace Sys2Proof.Machine

/-! ### The plan of a step -/

theorem beginStep_eq_plan {s : State} (hreset : Input.reset ∉ s.inputs.headD []) : s.beginStep = s.afterEvents.plan :=
  beginStep_of_no_reset hreset

theorem afterEvents_of_quiet {s : State} (hquiet : s.quiet) : s.afterEvents = { s with inputs := s.inputs.tail } := by
  rw [State.afterEvents, hquiet, List.foldl_nil]

theorem beginStep_of_quiet {s : State} (hquiet : s.quiet) : s.beginStep = State.plan { s with inputs := s.inputs.tail } := by
  have hnone : s.inputs.headD [] = [] := hquiet
  have hreset : Input.reset ∉ s.inputs.headD [] := by rw [hnone]; exact List.not_mem_nil
  rw [beginStep_eq_plan hreset, afterEvents_of_quiet hquiet]

section
variable {s : State}

theorem plan_of_stopped (hrun : s.run = .stopped) : s.plan = .idle s := if_pos hrun

/-- A due interrupt is taken, asleep or awake (R11). -/
theorem plan_of_due {v : VectorEntry} (hrun : s.run ≠ .stopped) (hdue : s.dueInterrupt = some v) : s.plan = .interrupt v s := by
  rw [State.plan, if_neg hrun, hdue]

theorem plan_of_sleeping (hrun : s.run = .sleeping) (hdue : s.dueInterrupt = none) : s.plan = .idle s := by
  simp [State.plan, hrun, hdue]

theorem plan_of_running (hrun : s.run = .running) (hdue : s.dueInterrupt = none) :
    s.plan = .execute { s with inhibit := false } := by
  simp [State.plan, hrun, hdue]

theorem step_of_idle {t : State} (h : s.beginStep = .idle t) : step s = .next t := by rw [step, h]

/-! ### The entry -/

/-- The interrupt due is the first entry of `VECTORS` whose request is pending (R405, R406). -/
theorem dueInterrupt_of_first {v : VectorEntry} {before after : List VectorEntry} (hrun : s.run ≠ .stopped)
    (hI : s.sreg.getLsbD 7 = true) (hheld : s.inhibit = false) (hvectors : s.cfg.vectors = before ++ v :: after)
    (hbefore : ∀ u ∈ before, u.num ∉ s.pending) (hv : v.num ∈ s.pending) : s.dueInterrupt = some v := by
  have hskip : before.find? (fun u => s.pending.contains u.num) = none := List.find?_eq_none.2 (by simpa using hbefore)
  have hfound : s.pending.contains v.num = true := List.contains_iff_mem.2 hv
  rw [State.dueInterrupt, if_pos ⟨hrun, hI, hheld⟩, State.nextRequest, hvectors, List.find?_append, hskip, Option.none_or]
  exact List.find?_cons_of_pos hfound

/-- The state an interrupt entry leads to with the stack in SRAM: the pc pushed, as a call pushes it, I clear, the core awake and
the request dropped where the device drops it (R405). -/
def State.interrupted (s : State) (v : VectorEntry) : State :=
  { s.called (s.pc.toNat % 2 ^ s.cfg.pcBits) v.addr with
    run := .running
    sreg := withBit s.sreg 7 false
    pending := if v.autoClear then s.pending.filter (fun n => n ≠ v.num) else s.pending }

theorem takeInterrupt_sram (hroom : s.stackRoom s.cfg.pcBytes) (v : VectorEntry) :
    takeInterrupt s v = .next (s.interrupted v) := by
  rw [takeInterrupt, pushPc_sram (s := { s with run := .running }) hroom, Res.andThen_next, State.acknowledge, State.interrupted]
  split <;> rfl

end

/-- Settles O47: the first pending request is due, so the step is its entry. -/
theorem interruptEntry : Obligations.InterruptEntry := by
  intro s v before after hquiet hrun hI hheld hvectors hbefore hv hroom
  have hdue : State.dueInterrupt { s with inputs := s.inputs.tail } = some v :=
    dueInterrupt_of_first hrun hI hheld hvectors hbefore hv
  have hbegin := (beginStep_of_quiet hquiet).trans (plan_of_due hrun hdue)
  rw [step, hbegin]
  exact takeInterrupt_sram (s := { s with inputs := s.inputs.tail }) hroom v

/-! ### The return -/

/-- Setting I where an entry has cleared it gives SREG as it was. -/
theorem withBit_I_restore {x : Byte} (hI : x.getLsbD 7 = true) : withBit (withBit x 7 false) 7 true = x := by
  refine byte_ext fun j => ?_
  rw [withBit_getLsbD, withBit_getLsbD]
  split
  · next hj => rw [hj]; exact hI.symm
  · rfl

/-- Settles O48: RETI pops what the entry pushed, and sets the I the entry cleared. -/
theorem interruptThenReturn : Obligations.InterruptThenReturn := by
  intro s t v hwf hpc hI hroom hentry
  obtain rfl : s.interrupted v = t := Host.Outcome.next.inj ((takeInterrupt_sram hroom v).symm.trans hentry)
  have hpop := popPc_of_pushed (t := s.interrupted v) hwf hroom rfl rfl rfl (Nat.mod_lt s.pc.toNat (Nat.two_pow_pos s.cfg.pcBits))
  refine ⟨_, (return_of_popPc hpop).2, ?_, rfl, withBit_I_restore hI, rfl, rfl, rfl⟩
  have hback : BitVec.ofNat 22 (s.pc.toNat % 2 ^ s.cfg.pcBits % 2 ^ s.cfg.pcBits) = s.pc := by
    rw [Nat.mod_mod, Nat.mod_eq_of_lt hpc, BitVec.ofNat_toNat, BitVec.setWidth_eq]
  exact hback

/-! ### The hold-off -/

/-- SEI, BSET 7 and RETI set I and hold interrupts off, and leave the run state (R359, R407, R409). -/
theorem enables_of_next {i : Instr} {s t : State} (hi : i = .sei ∨ i = .bset 7 ∨ i = .reti) (h : exec i s = .next t) :
    t.sreg.getLsbD 7 = true ∧ t.inhibit = true ∧ t.run = s.run := by
  have hset (x : Byte) : (withBit x 7 true).getLsbD 7 = true := withBit_getLsbD x 7 7 true
  have hflag (h : .next (s.enableInterrupts.advance 1) = (.next t : Res State)) :
      t.sreg.getLsbD 7 = true ∧ t.inhibit = true ∧ t.run = s.run := by
    cases h
    exact ⟨hset s.sreg, rfl, rfl⟩
  rcases hi with rfl | rfl | rfl
  · exact hflag h
  · exact hflag h
  · obtain ⟨⟨a, u⟩, hpop, hnext⟩ := Res.andThen_eq_next.1 h
    cases hnext
    exact ⟨hset u.sreg, rfl, (SameControl.popPc hpop).run⟩

/-- Settles O49: while interrupts are held off none is due, so the core runs what it fetches. -/
theorem enableHoldsOff : Obligations.EnableHoldsOff := by
  intro s t i j hi hrun h hquiet hfetch
  obtain ⟨hI, hheld, hkept⟩ := enables_of_next hi h
  refine ⟨hI, ?_⟩
  rw [step_runs hquiet (hkept.trans hrun) (dueInterrupt_of_inhibit hheld), hfetch, Res.andThen_next]
  rfl

end Sys2Proof.Machine
end

section
/-! When no interrupt is taken (spec/60_exceptions.md R405, R424): I clear, a core stopped or asleep, and a run that has ended, which
neither the events of a step but a reset nor the step itself takes out of its end. -/
namespace Sys2Proof.Machine

/-! ### What the events of a step leave -/

/-- What the events of a step can change (R423). -/
theorem afterEvents_same (s : State) : ∃ p e i d,
    s.afterEvents = { s with inputs := s.inputs.tail, pending := p, sleepEnabled := e, ioDev := i, extDev := d } :=
  (applyInputs_same (s.inputs.headD []) { s with inputs := s.inputs.tail }).1

theorem mem_pending_afterEvents {s : State} {n : Nat} (h : n ∈ s.afterEvents.pending) :
    n ∈ s.pending ∨ .request n ∈ s.inputs.headD [] :=
  (applyInputs_same (s.inputs.headD []) { s with inputs := s.inputs.tail }).2 n h

theorem noRequest_iff {s : State} :
    s.noRequest = true ↔ ∀ v ∈ s.cfg.vectors, v.num ∉ s.pending ∧ ∀ e ∈ s.inputs, .request v.num ∉ e := by
  simp only [State.noRequest, List.all_eq_true, Bool.and_eq_true, Bool.not_eq_true', List.contains_eq_mem, decide_eq_false_iff_not]

theorem noRequest_afterEvents {s : State} (h : s.noRequest = true) : s.afterEvents.noRequest = true := by
  rw [noRequest_iff] at h ⊢
  obtain ⟨p, e, i, d, hafter⟩ := afterEvents_same s
  intro v hv
  obtain ⟨hpending, hcoming⟩ := h v (by rwa [hafter] at hv)
  refine ⟨fun hnow => ?_, fun f hf => hcoming f (List.mem_of_mem_tail (by rwa [hafter] at hf))⟩
  rcases mem_pending_afterEvents hnow with hold | hnew
  · exact hpending hold
  · cases hinputs : s.inputs with
    | nil => simp [hinputs] at hnew
    | cons f rest => exact hcoming f (by simp [hinputs]) (by simpa [hinputs] using hnew)

theorem dueInterrupt_of_noRequest {s : State} (h : s.noRequest = true) : s.dueInterrupt = none :=
  dueInterrupt_of_none fun v hv => (noRequest_iff.1 h v hv).1

/-! ### The end of a run -/

theorem atSelfJump_iff {s : State} :
    s.atSelfJump = true
      ↔ s.run = .running ∧ wordAt s s.pc.toNat = some 0xCFFF#16 ∧ (s.sreg.getLsbD 7 = false ∨ s.noRequest = true) := by
  simp [State.atSelfJump, and_assoc]

theorem ended_iff {s : State} :
    s.ended = true ↔ s.run = .stopped ∨ s.run = .sleeping ∧ s.sreg.getLsbD 7 = false ∨ s.atSelfJump = true := by
  simp [State.ended, or_assoc]

/-- No event but a reset takes a run out of its end (R424). -/
theorem ended_afterEvents {s : State} (h : s.ended = true) : s.afterEvents.ended = true := by
  obtain ⟨p, e, i, d, hafter⟩ := afterEvents_same s
  have hrun : s.afterEvents.run = s.run := by rw [hafter]
  have hI : s.afterEvents.sreg = s.sreg := by rw [hafter]
  have hword : wordAt s.afterEvents s.afterEvents.pc.toNat = wordAt s s.pc.toNat := by rw [hafter]; rfl
  rw [ended_iff, atSelfJump_iff] at h ⊢
  rw [hrun, hI, hword]
  exact h.imp_right (Or.imp_right fun ⟨hr, hw, hleave⟩ => ⟨hr, hw, hleave.imp_right noRequest_afterEvents⟩)

/-- The word 0xCFFF is RJMP to itself, on every device (R202). -/
theorem decode_selfJump (c : Config) (w2 : Word16) : decode c 0xCFFF#16 w2 = .instr (.rjmp 0xFFF#12) := by
  refine decode_eq_instr.2 ⟨?_, rfl, hasRegs_iff.2 fun _ => nofun⟩
  cases c.reducedCore <;> rfl

theorem exec_selfJump {s : State} (hpc : s.pc.toNat < 2 ^ s.cfg.pcBits) : exec (.rjmp 0xFFF#12) s = .next s := by
  have htarget : relTarget s (-1) = s.pc.toNat := by
    rw [relTarget, Int.neg_add_cancel_right, Int.emod_eq_of_lt (Int.natCast_nonneg _) (by exact_mod_cast hpc), Int.toNat_natCast]
  change Host.Outcome.next (s.setPc (relTarget s (-1))) = _
  rw [htarget, State.setPc, Nat.mod_eq_of_lt hpc, BitVec.ofNat_toNat, BitVec.setWidth_eq]

/-- Where the run has ended a step does nothing, or plans the instruction at the pc, which is then the RJMP to itself (R424). -/
theorem plan_of_ended {s : State} (hended : s.ended = true) :
    s.plan = .idle s
      ∨ s.plan = .execute { s with inhibit := false } ∧ wordAt s s.pc.toNat = some 0xCFFF#16 := by
  rcases ended_iff.1 hended with hstopped | ⟨hasleep, hI⟩ | hjump
  · exact .inl (plan_of_stopped hstopped)
  · exact .inl (plan_of_sleeping hasleep (dueInterrupt_of_clear hI))
  · obtain ⟨hrun, hword, hI | hnone⟩ := atSelfJump_iff.1 hjump
    · exact .inr ⟨plan_of_running hrun (dueInterrupt_of_clear hI), hword⟩
    · exact .inr ⟨plan_of_running hrun (dueInterrupt_of_noRequest hnone), hword⟩

/-- A step of an ended run that no reset disturbs changes, after its events, the hold-off and the memory of DES at most. -/
theorem step_of_ended {s : State} (hpc : s.pc.toNat < 2 ^ s.cfg.pcBits) (hended : s.ended = true)
    (hreset : Input.reset ∉ s.inputs.headD []) :
    ∃ held des, step s = .next { s.afterEvents with inhibit := held, prevDes := des } := by
  have hbegin := beginStep_eq_plan hreset
  rcases plan_of_ended (ended_afterEvents hended) with hidle | ⟨hexecute, hword⟩
  · exact ⟨s.afterEvents.inhibit, s.afterEvents.prevDes, step_of_idle (hbegin.trans hidle)⟩
  · obtain ⟨_, _, _, _, hafter⟩ := afterEvents_same s
    have hpc' : s.afterEvents.pc.toNat < 2 ^ s.afterEvents.cfg.pcBits := by rw [hafter]; exact hpc
    have hfetch : fetchInstr { s.afterEvents with inhibit := false } = .next (.rjmp 0xFFF#12) :=
      fetchInstr_of_decode (decode_selfJump _ 0#16) hword fun htwo => absurd htwo (by decide)
    refine ⟨false, false, ?_⟩
    rw [step, hbegin.trans hexecute]
    dsimp only
    rw [hfetch, Res.andThen_next]
    exact exec_selfJump hpc'

/-- Settles O50: with I clear none is due; a core stopped or asleep is idle; the end of a run outlasts its events and its step. -/
theorem noInterrupt : Obligations.NoInterrupt := by
  refine ⟨fun s => ?_, fun s hquiet => ⟨fun hrun hI => ?_, fun hrun => ?_, fun hrun hnone => ?_⟩, fun s hwf hended hreset => ?_⟩
  · exact ⟨s.flagged 7 false, flagWrite_eq s 7 false, getLsbD_sreg_flagged s 7 7 false, Bool.or_false s.inhibit⟩
  · exact step_runs hquiet hrun (dueInterrupt_of_clear hI)
  · exact step_of_idle ((beginStep_of_quiet hquiet).trans (plan_of_stopped hrun))
  · have hdue : s.dueInterrupt = none := hnone.elim dueInterrupt_of_clear dueInterrupt_of_none
    exact step_of_idle ((beginStep_of_quiet hquiet).trans (plan_of_sleeping hrun hdue))
  · obtain ⟨-, hpc, -⟩ := (State.wf_iff s).1 hwf
    obtain ⟨held, des, hstep⟩ := step_of_ended hpc hended hreset
    obtain ⟨_, _, _, _, hafter⟩ := afterEvents_same s
    refine ⟨_, hstep, ended_afterEvents hended, ?_⟩
    rw [hafter]
    exact ⟨rfl, rfl, rfl, rfl, rfl, rfl, rfl⟩

end Sys2Proof.Machine
end

section
/-! The interrupt enable (spec/60_exceptions.md R411, spec/10_state.md R28): the relation `KeepsI`, one fact per shared ending of an
instruction, then every instruction that cannot write I, and what a data-space write does to SREG. -/
namespace Sys2Proof.Machine

/-- Wherever `r` goes on from `s`, I is as in `s`. -/
def KeepsI (s : State) (r : Res State) : Prop := ∀ t, r = .next t → t.sreg.getLsbD 7 = s.sreg.getLsbD 7

namespace KeepsI

variable {α : Type} {s t : State}

theorem next (h : t.sreg.getLsbD 7 = s.sreg.getLsbD 7) : KeepsI s (.next t) := by
  intro u hu
  cases hu
  exact h

theorem of_sreg (h : t.sreg = s.sreg) : KeepsI s (.next t) := .next (congrArg (BitVec.getLsbD · 7) h)

theorem fault {e : Fault} : KeepsI s (.fault e) := fun _ h => nomatch h

theorem andThen {r : Res α} {f : α → Res State} (h : ∀ a, r = .next a → KeepsI s (f a)) : KeepsI s (r.andThen f) := by
  intro t ht
  obtain ⟨a, ha, hf⟩ := Res.andThen_eq_next.1 ht
  exact h a ha t hf

/-- Whatever `t` comes to counts from `s`, where `t` has the SREG of `s`. -/
theorem of_same {r : Res State} (h : t.sreg = s.sreg) (k : KeepsI t r) : KeepsI s r := by
  intro u hu
  rw [k u hu, h]

end KeepsI

/-! ### Flag computations and reads -/

/-- Every flag computation keeps I (R28). -/
theorem setHSVNZC_I (old : Byte) (h v n z c : Bool) : (setHSVNZC old h v n z c).getLsbD 7 = old.getLsbD 7 := by
  obtain ⟨-, -, -, -, -, -, -, hI⟩ := packFlags_bits (flagOf old .i) (flagOf old .t) h (n ^^ v) v n z c
  exact hI

theorem setZC_I (old : Byte) (z c : Bool) : (setZC old z c).getLsbD 7 = old.getLsbD 7 := by
  obtain ⟨-, -, -, -, -, -, -, hI⟩ :=
    packFlags_bits (flagOf old .i) (flagOf old .t) (flagOf old .h) (flagOf old .s) (flagOf old .v) (flagOf old .n) z c
  exact hI

theorem withBit_I {b : BitNum} (hb : b ≠ 7) (x : Byte) (on : Bool) : (withBit x b on).getLsbD 7 = x.getLsbD 7 :=
  (withBit_getLsbD x b 7 on).trans (if_neg hb.symm)

section
variable {s : State}

theorem ioRead_sreg (s : State) (a : Fin 64) : (ioRead s a).2.sreg = s.sreg := by
  rcases ioRead_state s a with h | h <;> rw [h]
  rfl

theorem memRead_sreg {a : Nat} {p : Byte × State} (h : memRead s a = .next p) : p.2.sreg = s.sreg := by
  rcases memRead_state h with h | h <;> rw [h]
  rfl

theorem pop_sreg {p : Byte × State} (h : pop s = .next p) : p.2.sreg = s.sreg :=
  memRead_sreg (s := { s with sp := spUp s.cfg s.sp }) (pop_eq_next.1 h)

theorem popPc_sreg {p : Nat × State} (h : popPc s = .next p) : p.2.sreg = s.sreg := by
  obtain ⟨hi, hhi, h⟩ := Res.andThen_eq_next.1 h
  obtain ⟨mid, hmid, h⟩ := Res.andThen_eq_next.1 h
  obtain ⟨lo, hlo, h⟩ := Res.andThen_eq_next.1 h
  have hfirst : hi.2.sreg = s.sreg := by
    split at hhi
    · exact pop_sreg hhi
    · cases hhi
      rfl
  cases h
  exact (pop_sreg hlo).trans ((pop_sreg hmid).trans hfirst)

theorem extWrite_sreg (s : State) (a : Nat) (v : Byte) : (extWrite s a v).sreg = s.sreg := by
  unfold extWrite
  split <;> rfl

theorem ptrSet_sreg (s : State) (p : Ptr) (n : Nat) : (ptrSet s p n).sreg = s.sreg := by
  unfold ptrSet
  split
  · rfl
  · split
    · cases p <;> rfl
    · rfl

end

/-! ### The shared endings of the instructions -/

section
variable (s : State)

theorem flagWrite_keepsI {b : BitNum} (hb : b ≠ 7) (on : Bool) : KeepsI s (flagWrite s b on) :=
  flagWrite_eq s b on ▸ .next (withBit_I hb s.sreg on)

theorem branchIf_keepsI (cond : Bool) (k : BitVec 7) : KeepsI s (.next (branchIf s cond k)) := by
  cases cond <;> exact .of_sreg rfl

theorem skipIf_keepsI (cond : Bool) : KeepsI s (skipIf s cond) := by
  unfold skipIf
  split
  · exact .andThen fun _ _ => .of_sreg rfl
  · exact .of_sreg rfl

theorem ret_keepsI : KeepsI s (execRet s) := .andThen fun _ h => .of_sreg (popPc_sreg h)

theorem loadFrom_keepsI (d : Reg) (a n : Nat) : KeepsI s (loadFrom s d a n) := .andThen fun _ h => .of_sreg (memRead_sreg h)

theorem loadPostInc_keepsI (p : Ptr) (d : Reg) : KeepsI s (loadPostInc s p d) := by
  unfold loadPostInc
  split
  · exact .fault
  · exact .andThen fun _ h => .of_sreg ((ptrSet_sreg _ p _).trans (memRead_sreg h))

theorem loadPreDec_keepsI (p : Ptr) (d : Reg) : KeepsI s (loadPreDec s p d) := by
  unfold loadPreDec
  split
  · exact .fault
  · exact .of_same (ptrSet_sreg s p _) (loadFrom_keepsI _ d _ 1)

/-- None of LPM, ELPM and SPM writes SREG (spec/44_program_memory.md R330 (d)). -/
theorem programMemory_keepsI {i : Instr} (d : Reg)
    (hi : i ∈ [.lpmR0, .lpmZ d, .lpmZInc d, .elpmR0, .elpmZ d, .elpmZInc d, .spm, .spmZInc]) : KeepsI s (exec i s) :=
  fun _ h => congrArg (BitVec.getLsbD · 7) (programMemory_keeps_sreg_sp hi h).1

theorem brk_keepsI : KeepsI s (exec .brk s) := exec_brk s ▸ .of_sreg rfl

theorem sleep_keepsI : KeepsI s (exec .sleep s) := exec_sleep s ▸ .of_sreg rfl

end

/-- An instruction R411 does not list keeps I. The cases are grouped by how the instruction ends. -/
theorem exec_keepsI {i : Instr} (hi : Instr.mayWriteI i = false) (s : State) : KeepsI s (exec i s) := by
  cases i with
  | add | adc | sub | subi | sbc | sbci | and | andi | or | ori | eor | com | neg | sbr | cbr | inc | dec | tst | clr
  | adiw | sbiw | cp | cpc | cpi | lsl | lsr | rol | ror | asr => exact .next (setHSVNZC_I s.sreg _ _ _ _ _)
  | mul | muls | mulsu | fmul | fmuls | fmulsu => exact .next (setZC_I s.sreg _ _)
  | ser | mov | movw | ldi | swap | bld | rjmp | ijmp | eijmp | jmp | nop | wdr => exact .of_sreg rfl
  | des => exact .of_sreg ((State.advance_sreg _ 1).trans (State.setBlocks_sreg s _ _))
  | bst | sec | clc | sen | cln | sez | clz | ses | cls | sev | clv | setT | clt | seh | clh =>
    exact .next (withBit_I (by decide) s.sreg _)
  | bset b | bclr b => exact flagWrite_keepsI s (beq_eq_false_iff_ne.1 hi) _
  | brbs | brbc | breq | brne | brcs | brcc | brsh | brlo | brmi | brpl | brge | brlt | brhs | brhc | brts | brtc | brvs
  | brvc | brie | brid => exact branchIf_keepsI s _ _
  | cpse | sbrc | sbrs => exact skipIf_keepsI s _
  | sbic | sbis => exact .of_same (ioRead_sreg s _) (skipIf_keepsI _ _)
  | ret => exact ret_keepsI s
  | lds | lds16 | ldX | ldY | lddY | ldZ | lddZ => exact loadFrom_keepsI s _ _ _
  | ldXInc | ldYInc | ldZInc => exact loadPostInc_keepsI s _ _
  | ldXDec | ldYDec | ldZDec => exact loadPreDec_keepsI s _ _
  | ioIn => exact .of_sreg (ioRead_sreg s _)
  | pop => exact .andThen fun _ h => .of_sreg (pop_sreg h)
  | lpmZ d | lpmZInc d | elpmZ d | elpmZInc d => exact programMemory_keepsI s d (by simp)
  | lpmR0 | elpmR0 | spm | spmZInc => exact programMemory_keepsI s 0 (by simp)
  | brk => exact brk_keepsI s
  | sleep => exact sleep_keepsI s
  | sei | cli | reti | ioOut | sbi | cbi | sts | sts16 | stX | stXInc | stXDec | stY | stYInc | stYDec | stdY | stZ | stZInc
  | stZDec | stdZ | push | rcall | icall | eicall | call => cases hi

/-! ### Writes of SREG -/

/-- A write of the I/O space changes SREG at SREG's own address only (R27, R65). -/
theorem addr_of_ioWrite_sreg {s : State} {j : Fin 64} {v : Byte} (h : (ioWrite s j v).sreg ≠ s.sreg) : j.val = s.cfg.sregIo := by
  refine addr_of_ioTarget (c := s.cfg) ?_
  unfold ioWrite at h
  split at h
  case h_1 hsreg => rw [hsreg]; rfl
  all_goals exact absurd rfl h

/-- Settles O54: what R411 does not list keeps I; of the data space only the I/O location of SREG reaches SREG. -/
theorem whoChangesI : Obligations.WhoChangesI := by
  refine ⟨fun i s t hexec hchanged => ?_, fun s t a v hwrite hchanged => ?_⟩
  · rw [← Bool.not_eq_false]
    exact fun hi => hchanged (exec_keepsI hi s t hexec)
  · rcases memWrite_cases hwrite with ⟨_, -, rfl⟩ | ⟨j, hplace, rfl⟩ | ⟨-, rfl⟩ | ⟨-, rfl⟩
    · exact absurd rfl hchanged
    · exact ⟨j, hplace, addr_of_ioWrite_sreg hchanged⟩
    · exact absurd (extWrite_sreg s a v) hchanged
    · exact absurd rfl hchanged

end Sys2Proof.Machine
end
